-- ==== Sys2Proof/Word.lean ====
section
/-! DEFINITION. The words and index types of the Weftsa 2160: bytes, addresses, tiles, tags, and the
64-byte burst. Every type here has exactly the values its field has in spec/, so that no value of
one is out of range. -/

namespace Sys2Proof

/-- One byte. -/
abbrev Byte := BitVec 8

/-- A 33-bit address (spec/07 R149, spec/06 R126). -/
abbrev Addr := BitVec 33

/-- A tile index, 0 to 127 (spec/01 R2). -/
abbrev Tile := Fin 128

/-- A lane, 0 to 7 (spec/01 R2). -/
abbrev Lane := Fin 8

/-- A band, 0 to 15 (spec/01 R2). -/
abbrev Band := Fin 16

/-- A downstream tag, 0 to 47 (spec/06 R129). -/
abbrev Tag := Fin 48

/-- A host tag, 0 to 31 (spec/07 R149). -/
abbrev HostTag := Fin 32

/-- The beat a read returns first, 0 to 7 (spec/07 R149). -/
abbrev StartBeat := Fin 8

/-- The 64 flags of a write, one per byte, flag `beat × 8 + byte` (spec/07 R149). -/
abbrev ByteMask := BitVec 64

/-- The 64 bytes of a burst, byte `beat × 8 + byte`; for the data of a read response the beats are
counted in the order they are sent, which is wrap order (spec/07 R150). -/
abbrev Burst := Vector Byte 64

/-- A set of lanes: bit n is lane n (spec/09 R195). -/
abbrev LaneSet := BitVec 8

/-- A set of bands: bit n is band n (spec/09 R195). -/
abbrev BandSet := BitVec 16

/-- A set of host tags: bit n is host tag n. -/
abbrev HostTagSet := BitVec 32

/-- A set of notice kinds: bit k is the kind with code k (spec/09 R196). -/
abbrev KindSet := BitVec 18

/-- An instant, or a length of time, in whole microseconds of REFCLK (spec/12 R213). -/
abbrev Micros := Nat

end Sys2Proof
end

