-- ==== Sys2Proof/Syntax.lean ====
section
/-! DEFINITION. The commands of the Weftsa 2160: one constructor of `Instr` for each row of
spec/opcode_table.json, with the operands the row's event carries. The messages that arrive on the
links are defined here too, because commands carry them. -/

namespace Sys2Proof

/-- One of the two fill channels, 0 and 1 (spec/03 R47). -/
inductive Chan where
  | ch0
  | ch1
  deriving DecidableEq, Repr

/-- READ or WRITE (spec/06 R126, spec/07 R149). -/
inductive Kind where
  | read
  | write
  deriving DecidableEq, Repr

/-- The fields of a REQUEST that only one kind carries: the start beat of a READ, the byte mask and
the eight data beats of a WRITE (spec/06 R126, spec/07 R149). -/
inductive ReqBody where
  | read (start : StartBeat)
  | write (mask : ByteMask) (data : Burst)
  deriving DecidableEq, Repr

/-- The kind a body belongs to. -/
def ReqBody.kind : ReqBody → Kind
  | .read _ => .read
  | .write _ _ => .write

/-- A host REQUEST as received (spec/07 R149, spec/02 R22). -/
structure HostRequest where
  tag  : HostTag
  addr : Addr
  body : ReqBody
  deriving DecidableEq, Repr

/-- The status of a memory-link RESPONSE (spec/06 R127). -/
inductive MemStatus where
  | ok
  | error
  deriving DecidableEq, Repr

/-- The commands: the rows of spec/opcode_table.json, in the table's order. An operand stands for
what the row's message or frame carries, or, for an event of the part's own that concerns one tag
or one channel, which one it is. -/
inductive Instr where
  /-- REQUEST (R152): a host REQUEST is taken on the host link. -/
  | request (r : HostRequest)
  /-- HOST_LINK_UP (R161): both ready lines of the host-link bundle are asserted. -/
  | hostLinkUp
  /-- MEMORY_LINK_UP (R213): both ready lines of the memory-link bundle are asserted. -/
  | memoryLinkUp
  /-- RESPONSE (R136): the 6-bit tag, the status and the data field as they stand on the link. The
  data is used only where R127 says so; a message without data carries any value here. -/
  | response (tag : Fin 64) (st : MemStatus) (data : Burst)
  /-- CREDIT (R128): n credits, 0 to 255. -/
  | credit (n : Fin 256)
  /-- ENTER_DONE (R92). -/
  | enterDone
  /-- EXIT_DONE (R98). -/
  | exitDone
  /-- RESPONSE_TIMEOUT (R139): the deadline of this host-origin tag passes. -/
  | responseTimeout (tag : Tag)
  /-- FILL_WRITE_TIMEOUT (R140): the deadline of this fill-origin tag passes. -/
  | fillWriteTimeout (tag : Tag)
  /-- ENTRY_TIMEOUT (R93): the directive deadline passes in ENTERING. -/
  | entryTimeout
  /-- EXIT_TIMEOUT (R99): the directive deadline passes in EXITING at attempt 1. -/
  | exitTimeout
  /-- HALT (R100): the directive deadline passes in EXITING at attempt 2. -/
  | halt
  /-- SLP_REQ_RISE (R84). -/
  | slpReqRise
  /-- SLP_REQ_FALL (R82). -/
  | slpReqFall
  /-- DRAIN_COMPLETION (R90), as an event of its own after the drain's start (R86). -/
  | drainCompletion
  /-- HARD_RESET (R209): RST_N goes low, or power-on. -/
  | hardReset
  /-- HARD_RESET_END (R213): RST_N rises. -/
  | hardResetEnd
  /-- HEAD_CLASSIFICATION (R28): the head request is classified. -/
  | headClassification
  /-- FILL_START (R8): the fill start the head's classification made arrives at the Tile Map. -/
  | fillStart
  /-- QUEUE_AT_HEAD (R9): the queue-at-head the head's classification made arrives. -/
  | queueAtHead
  /-- PROMOTION (R9): the promotion the head's classification made arrives. -/
  | promotion
  /-- HEAD_GRANT (R29): the arbiter grants the issue slot to the head. -/
  | headGrant
  /-- CHANNEL_GRANT (R58): the arbiter grants the issue slot to this fill channel. -/
  | channelGrant (c : Chan)
  /-- TAKE (R11): this channel takes the head tile of the Fill Queue. -/
  | take (c : Chan)
  /-- CURSOR_STEP (R56): this channel steps over the CONFIRMED entry under its cursor. -/
  | cursorStep (c : Chan)
  /-- STATUS (R181), code 0x10. -/
  | status
  /-- RESULT (R189), code 0x11. -/
  | result
  /-- GET (R192), code 0x12: the setting identifier. -/
  | get (ident : Byte)
  /-- SET (R193), code 0x13: the setting identifier and the 8-byte value field, first byte most
  significant (R196). -/
  | set (ident : Byte) (value : BitVec 64)
  /-- READ_TILE (R182), code 0x14: the tile index byte. -/
  | readTile (index : Byte)
  /-- READ_CHANNEL (R183), code 0x15: the channel number byte. -/
  | readChannel (number : Byte)
  /-- TAKE_NOTICE (R168), code 0x16. -/
  | takeNotice
  /-- UNKNOWN_COMMAND (R179): a frame whose command code, given here, names no command. -/
  | unknownCommand (code : Byte)
  /-- FRAME_ABANDON (R177): chip-select rises before the command is taken. -/
  | frameAbandon
  /-- ENGAGE (R199), code 0x20: the option byte. -/
  | engage (option : Byte)
  /-- ENGAGE_WALK_CLAIM (R200): the ENGAGE walk's next claim. -/
  | engageWalkClaim
  /-- DISENGAGE (R202), code 0x21. -/
  | disengage
  /-- DISENGAGE_END (R203). -/
  | disengageEnd
  /-- RESTART (R204), code 0x2F. -/
  | restart
  /-- RESTART_CLEAR (R206). -/
  | restartClear
  /-- DISCARD (R109), code 0x22: the first and last tile bytes. -/
  | discard (first last : Byte)
  /-- DISCARD_CLAIM (R13): the DISCARD walk's next claim. -/
  | discardClaim
  /-- PREPARE (R109), code 0x23: the first and last tile bytes. -/
  | prepare (first last : Byte)
  /-- PREPARE_CLAIM (R119): the PREPARE walk's next claim. -/
  | prepareClaim
  /-- ADOPT (R109), code 0x24: the first and last tile bytes. -/
  | adopt (first last : Byte)
  /-- ADOPT_CLAIM (R121): the ADOPT walk's next claim. -/
  | adoptClaim
  /-- FRAME_BEGIN (R174): chip-select falls. -/
  | frameBegin
  /-- FRAME_END (R177): chip-select rises after the command was taken. -/
  | frameEnd
  deriving DecidableEq, Repr

end Sys2Proof
end

