-- ==== Sys2Proof/Decode.lean ====
section
/-! DEFINITION. Reading commands from bits: from a word of spec/opcode_table.json, which gives bits
for none of its 48 rows, and from the data-in bytes of a management frame by the table of
spec/09 R195, with the encoder beside it. -/

namespace Sys2Proof

/-- The command that a word of `nbits` bits spells by the table's bits. No row of the table gives
bits, so every word is answered with none. -/
def decodeTableWord (_nbits _w : Nat) : Option Instr := none

/-! ### Management frames (spec/09 R174, R176, R195) -/

/-- The thirteen command codes, each with its number p of parameter bytes (spec/09 R195). -/
def frameTable : List (Byte × Nat) :=
  [(0x10, 0), (0x11, 0), (0x12, 1), (0x13, 9), (0x14, 1), (0x15, 1), (0x16, 0),
   (0x20, 1), (0x21, 0), (0x22, 2), (0x23, 2), (0x24, 2), (0x2F, 0)]

/-- The thirteen command codes (spec/09 R195). -/
def knownCodes : List Byte := frameTable.map Prod.fst

/-- The number p of parameter bytes of a command code; none where the code names no command
(spec/09 R175, R195). -/
def paramCount (code : Byte) : Option Nat := frameTable.lookup code

/-- The command that a code and its p parameter bytes spell (spec/09 R195). The 8-byte value of SET
has its most significant byte first (R196). -/
def commandOf (code : Byte) (params : List Byte) : Option Instr :=
  match code.toNat, params with
  | 0x10, [] => some .status
  | 0x11, [] => some .result
  | 0x12, [ident] => some (.get ident)
  | 0x13, [ident, b0, b1, b2, b3, b4, b5, b6, b7] =>
    some (.set ident (b0 ++ b1 ++ b2 ++ b3 ++ b4 ++ b5 ++ b6 ++ b7))
  | 0x14, [index] => some (.readTile index)
  | 0x15, [number] => some (.readChannel number)
  | 0x16, [] => some .takeNotice
  | 0x20, [option] => some (.engage option)
  | 0x21, [] => some .disengage
  | 0x22, [first, last] => some (.discard first last)
  | 0x23, [first, last] => some (.prepare first last)
  | 0x24, [first, last] => some (.adopt first last)
  | 0x2F, [] => some .restart
  | _, _ => none

/-- The commands of one whole frame, from chip-select's fall to its rise, by the whole bytes of data
in that it carried (spec/09 R174 to R179): the command is taken at the end of byte t, the larger of
1 and p, and later bytes are disregarded; a frame that ends before is abandoned; a code that names no
command is answered UNKNOWN at byte 0. -/
def frameCommands (dataIn : List Byte) : List Instr :=
  match dataIn with
  | [] => [.frameBegin, .frameAbandon]
  | code :: rest =>
    match paramCount code with
    | none => [.frameBegin, .unknownCommand code, .frameAbandon]
    | some p =>
      if max 1 p ≤ rest.length then
        match commandOf code (rest.take p) with
        | some c => [.frameBegin, c, .frameEnd]
        | none => [.frameBegin, .frameAbandon]
      else [.frameBegin, .frameAbandon]

/-- The eight bytes of a value field, most significant byte first (spec/09 R196). -/
def valueBytes (v : BitVec 64) : List Byte :=
  [v.extractLsb' 56 8, v.extractLsb' 48 8, v.extractLsb' 40 8, v.extractLsb' 32 8,
   v.extractLsb' 24 8, v.extractLsb' 16 8, v.extractLsb' 8 8, v.extractLsb' 0 8]

/-- The code and the parameter bytes of the frame that carries a command; none for a command that no
frame carries (spec/09 R195). -/
def Instr.frameBytes : Instr → Option (List Byte)
  | .status => some [0x10]
  | .result => some [0x11]
  | .get ident => some [0x12, ident]
  | .set ident value => some (0x13 :: ident :: valueBytes value)
  | .readTile index => some [0x14, index]
  | .readChannel number => some [0x15, number]
  | .takeNotice => some [0x16]
  | .engage option => some [0x20, option]
  | .disengage => some [0x21]
  | .discard first last => some [0x22, first, last]
  | .prepare first last => some [0x23, first, last]
  | .adopt first last => some [0x24, first, last]
  | .restart => some [0x2F]
  | .unknownCommand code => some [code]
  | .request _ => none
  | .hostLinkUp => none
  | .memoryLinkUp => none
  | .response _ _ _ => none
  | .credit _ => none
  | .enterDone => none
  | .exitDone => none
  | .responseTimeout _ => none
  | .fillWriteTimeout _ => none
  | .entryTimeout => none
  | .exitTimeout => none
  | .halt => none
  | .slpReqRise => none
  | .slpReqFall => none
  | .drainCompletion => none
  | .hardReset => none
  | .hardResetEnd => none
  | .headClassification => none
  | .fillStart => none
  | .queueAtHead => none
  | .promotion => none
  | .headGrant => none
  | .channelGrant _ => none
  | .take _ => none
  | .cursorStep _ => none
  | .frameAbandon => none
  | .engageWalkClaim => none
  | .disengageEnd => none
  | .restartClear => none
  | .discardClaim => none
  | .prepareClaim => none
  | .adoptClaim => none
  | .frameBegin => none
  | .frameEnd => none

/-- Frame byte t, at whose end a frame's command is taken: the larger of 1 and its number of
parameter bytes (spec/09 R176). -/
def Instr.takenByte (c : Instr) : Nat := max 1 ((c.frameBytes.getD []).length - 1)

end Sys2Proof
end

