-- ==== Sys2Proof/Config.lean ====
section
/-! DEFINITION. The fixed bounds of the part. The spec leaves no value of the part open to an
implementation and no result of a command undefined, so this file holds no free value. -/

namespace Sys2Proof.Config

/-- A skip list holds at most 32 entries (spec/03 R50). -/
def skipBound : Nat := 32

/-- An in-flight list holds at most 4 entries (spec/03 R54). -/
def inFlightBound : Nat := 4

/-- The Notice Queue holds at most 32 records (spec/08 R165). -/
def noticeBound : Nat := 32

/-- The lost count stops at 65,535 (spec/08 R166). -/
def lostBound : Nat := 65535

/-- The host is granted 16 credits in all (spec/07 R157, R161). -/
def hostCredits : Nat := 16

/-- The link credit counter saturates at 255 (spec/06 R128). -/
def linkCreditBound : Nat := 255

/-- Microseconds in a millisecond: DIRECTIVE_TIMEOUT is set in milliseconds, and deadlines are
counted in microseconds (spec/09 R190, spec/12 R213). -/
def microsPerMilli : Nat := 1000

end Sys2Proof.Config
end

