-- ==== Sys2Proof/Machine/State.lean ====
section
/-! DEFINITION. The state of the Weftsa 2160, block by block as spec/00 lists them, its value right
after hard reset, and the reasons a step can stop. Plain data throughout. -/

namespace Sys2Proof.Machine

/-! ### Tile Map -/

/-- A tile record (spec/01 R5): the state, and with FILLING the channel, which is present in that
state only. -/
inductive TileState where
  | untracked
  | void
  | queued
  | filling (c : Chan)
  | live
  | discarded
  | failed
  deriving DecidableEq, Repr

/-! ### Dispatch Unit -/

/-- A standing provisional classification of the head (spec/02 R28). LOCAL never stands, because it
answers the head in the same event. FORWARD is at the same time the head's standing request to the
arbiter (spec/06 R132). -/
inductive HeadClass where
  | forward
  | wait
  deriving DecidableEq, Repr

/-- A claim the head's classification has made and that has not yet arrived at the Tile Map
(spec/01 R7, R8, R9). -/
inductive DispatchClaim where
  | fillStart (t : Tile) (c : Chan)
  | queueAtHead (t : Tile)
  | promotion (t : Tile)
  deriving DecidableEq, Repr

/-- The Dispatch Unit: the head's provisional classification, absent while the head is to be
classified, and its claim on the way to the Tile Map. -/
@[ext]
structure DispatchUnit where
  headClass : Option HeadClass
  claim     : Option DispatchClaim
  deriving DecidableEq, Repr

/-! ### Fill Engine -/

/-- The state of a fill channel, with the tile it serves while FILLING (spec/03 R47). -/
inductive ChanState where
  | idle
  | filling (t : Tile)
  | cancelling
  deriving DecidableEq, Repr

/-- The status of a skip entry, with the downstream tag while ISSUED (spec/03 R50). -/
inductive SkipStatus where
  | issued (tag : Tag)
  | confirmed
  deriving DecidableEq, Repr

/-- A skip entry (spec/03 R50). -/
structure SkipEntry where
  offset : Nat
  status : SkipStatus
  deriving DecidableEq, Repr

/-- The attempt of a fill write, 1 or 2 (spec/03 R54). -/
inductive Attempt where
  | first
  | second
  deriving DecidableEq, Repr

/-- The status of an in-flight entry, with the downstream tag while ISSUED (spec/03 R54). -/
inductive FlightStatus where
  | issued (tag : Tag)
  | retryWait
  deriving DecidableEq, Repr

/-- An in-flight entry (spec/03 R54). -/
structure FlightEntry where
  offset  : Nat
  attempt : Attempt
  status  : FlightStatus
  deriving DecidableEq, Repr

/-- A fill channel (spec/03 R47), with its standing request to the arbiter (spec/03 R57). -/
@[ext]
structure Channel where
  state    : ChanState
  cursor   : Nat
  paused   : Bool
  skip     : List SkipEntry
  inFlight : List FlightEntry
  asks     : Bool
  deriving DecidableEq, Repr

/-! ### Host Link -/

/-- The status of a host RESPONSE (spec/07 R150). -/
inductive HostStatus where
  | okay
  | void
  | error
  | timeout
  | refused
  | aborted
  deriving DecidableEq, Repr

/-- A message sent on the host link (spec/07 R150, R151). -/
inductive HostMsg where
  | response (tag : HostTag) (status : HostStatus) (data : Option Burst)
  | credit (n : Nat)
  deriving DecidableEq, Repr

/-- The Host Link (spec/07). `sent` is the model's record of the messages sent, oldest first. -/
@[ext]
structure HostLink where
  up          : Bool
  balance     : Nat
  owed        : Nat
  outstanding : HostTagSet
  sent        : List HostMsg
  deriving DecidableEq, Repr

/-! ### Memory Link -/

/-- A message sent on the memory link (spec/06 R126). -/
inductive MemMsg where
  | request (tag : Tag) (addr : Addr) (body : ReqBody)
  | retainEnter (lanes : LaneSet) (bands : BandSet)
  | retainExit
  deriving DecidableEq, Repr

/-- The skip entry a host write inserted or re-issued: channel and tile offset (spec/06 R129). -/
structure SkipLink where
  chan   : Chan
  offset : Nat
  deriving DecidableEq, Repr

/-- Who a downstream request was sent for, with the fields that origin carries (spec/06 R129). The
kind of a fill-origin entry is always WRITE. -/
inductive Origin where
  | host (kind : Kind) (addr : Addr) (hostTag : HostTag) (link : Option SkipLink)
  | fill (addr : Addr) (chan : Chan) (offset : Nat)
  deriving DecidableEq, Repr

/-- An entry of the Tag Pool (spec/06 R129): its status with the fields present in it. -/
inductive TagEntry where
  | free
  | inUse (origin : Origin) (deadline : Micros)
  | quarantined (origin : Origin)
  deriving DecidableEq, Repr

/-- The Memory Link and its arbiter (spec/06). `held` is the directives sent while the link state is
DOWN and not yet carried (R146); `sent` is the model's record of the messages the memory controller
has been sent, oldest first. -/
@[ext]
structure MemLink where
  up          : Bool
  credits     : Nat
  fillPass    : Nat
  lastGranted : Chan
  held        : List MemMsg
  sent        : List MemMsg
  deriving DecidableEq, Repr

/-! ### Retention Controller -/

/-- The retention state (spec/04 R80). -/
inductive RetState where
  | active
  | draining
  | entering
  | retained
  | exiting
  | halted
  deriving DecidableEq, Repr

/-- The Retention Controller's record (spec/04 R80). -/
@[ext]
structure Retention where
  state         : RetState
  releaseNeeded : Bool
  pendingWake   : Bool
  exitAttempts  : Nat
  keptLanes     : LaneSet
  keptBands     : BandSet
  deadline      : Option Micros
  slpAck        : Bool
  deriving DecidableEq, Repr

/-! ### Notice Queue -/

/-- The eighteen kinds of notice (spec/08 R163). -/
inductive NoticeKind where
  | voidRead
  | range
  | tagClash
  | creditOverrun
  | asleepRefused
  | failedAccess
  | fillDone
  | fillRetry
  | fillFailed
  | responseTimeout
  | lateResponse
  | strayResponse
  | retainEntered
  | retainExited
  | entryTimeout
  | exitTimeout
  | halted
  | strayDirective
  deriving DecidableEq, Repr

/-- A notice as posted: its kind and the optional fields, each present or absent (spec/08 R163). -/
structure Notice where
  kind    : NoticeKind
  tile    : Option Tile := none
  addr    : Option Addr := none
  hostTag : Option HostTag := none
  chan    : Option Chan := none
  kept    : Option (LaneSet × BandSet) := none
  deriving DecidableEq, Repr

/-- A stored record: a notice with the sequence number it took (spec/08 R163). -/
structure NoticeRecord where
  seq    : BitVec 16
  notice : Notice
  deriving DecidableEq, Repr

/-- The Notice Queue (spec/08). `attnLow` says that ATTN_N is driven low (R170). -/
@[ext]
structure NoticeQueue where
  records : List NoticeRecord
  lost    : Nat
  counter : BitVec 16
  attnLow : Bool
  deriving DecidableEq, Repr

/-! ### Management Port -/

/-- The six long commands (spec/09 R186). -/
inductive LongCmd where
  | engage
  | disengage
  | discard
  | prepare
  | adopt
  | restart
  deriving DecidableEq, Repr

/-- Why a long command is refused (spec/09 R186). -/
inductive Reason where
  | mode
  | state
  | range
  deriving DecidableEq, Repr

/-- The outcome of a long command, with the reason that REFUSED alone carries (spec/09 R186). -/
inductive LongOutcome where
  | running
  | done
  | refused (why : Reason)
  deriving DecidableEq, Repr

/-- The result record (spec/09 R186); the command NONE is `none`. -/
@[ext]
structure ResultRecord where
  command   : Option LongCmd
  outcome   : LongOutcome
  changed   : Nat
  unchanged : Nat
  deriving DecidableEq, Repr

/-- A frame in progress (spec/09 R174 to R177): the whole bytes shifted so far, whether the command
has been taken or the frame is ignored, and what data out carries from byte 0 on; every later byte
of data out is 0x00. -/
structure Frame where
  position : Nat
  decided  : Bool
  dataOut  : List Byte
  deriving DecidableEq, Repr

/-- The position of a range command's walk: the tile of its next claim, and its last tile
(spec/05 R110, R111). -/
structure RangeWalk where
  next : Tile
  last : Tile
  deriving DecidableEq, Repr

/-- The ENGAGE option (spec/10 R197). -/
inductive EngageOption where
  | assumeLive
  | assumeVoid
  deriving DecidableEq, Repr

/-- The ENGAGE walk's position and option (spec/10 R197). -/
structure EngageWalk where
  pos    : Tile
  option : EngageOption
  deriving DecidableEq, Repr

/-- The mode (spec/10 R197). -/
inductive Mode where
  | bypass
  | engaging
  | engaged
  | disengaging
  | restarting
  deriving DecidableEq, Repr

/-- The Management Port (spec/09) without its settings and mode, which stand beside it in `State`.
`frame` absent is "no frame". -/
@[ext]
structure MgmtPort where
  frame     : Option Frame
  running   : Option LongCmd
  result    : ResultRecord
  rangeWalk : Option RangeWalk
  deriving DecidableEq, Repr

/-- Mode control (spec/10 R197). -/
@[ext]
structure ModeControl where
  mode : Mode
  walk : Option EngageWalk
  deriving DecidableEq, Repr

/-- The void policy (spec/02 R33). -/
inductive VoidPolicy where
  | silent
  | flag
  | refuse
  deriving DecidableEq, Repr

/-- The eleven settings (spec/09 R190). CAPACITY and GRANULE are held by their codes (R196);
RESP_TIMEOUT is in microseconds and DIRECTIVE_TIMEOUT in milliseconds; FILL_WORD is its eight bytes
with byte 0 most significant, as SET and GET carry it. -/
@[ext]
structure Settings where
  capacity         : Fin 6
  granule          : Fin 5
  fillWord         : BitVec 64
  voidPolicy       : VoidPolicy
  wakeOnAccess     : Bool
  fillShare        : Nat
  respTimeout      : Nat
  directiveTimeout : Nat
  floorLanes       : LaneSet
  floorBands       : BandSet
  noticeMask       : KindSet
  deriving DecidableEq, Repr

/-! ### Pins -/

/-- The levels on pins that events read or drive (spec/12): whether RST_N is low, SLP_REQ, whether
chip-select is low, and the 2160's own ready line on each link bundle. SLP_ACK stands in
`Retention`, ATTN_N in `NoticeQueue`, and SPI_SDO is driven while a frame is in progress. -/
@[ext]
structure Pins where
  inReset    : Bool
  slpReqHigh : Bool
  csLow      : Bool
  hostReady  : Bool
  memReady   : Bool
  deriving DecidableEq, Repr

/-! ### The whole machine -/

/-- The state of the 2160, block by block (spec/00), with the clock its deadlines are measured on
and the queue of commands that are waiting, first in, first out. -/
@[ext]
structure State where
  pins      : Pins
  now       : Micros
  tiles     : Vector TileState 128
  requests  : List HostRequest
  dispatch  : DispatchUnit
  chan0     : Channel
  chan1     : Channel
  fillQueue : List Tile
  host      : HostLink
  link      : MemLink
  tags      : Vector TagEntry 48
  ret       : Retention
  notices   : NoticeQueue
  port      : MgmtPort
  control   : ModeControl
  settings  : Settings
  pending   : List Instr
  deriving DecidableEq, Repr

/-- The reasons the machine could stop with a fault. There are none: the spec lets no event stop the
part, HALTED being a state from which it goes on (spec/04 R102). Nobody raises one, which is safe.
-/
inductive Fault where
  deriving DecidableEq, Repr

/-- The reasons a command has no meaning. -/
inductive Refusal where
  /-- Raised by an arm of `exec` whose command is not modelled yet, and by nothing else. Safe: the
  model stops where the part goes on. -/
  | notModelled (mnemonic : String)
  deriving DecidableEq, Repr

/-! ### Hard reset -/

/-- A fill channel after hard reset (spec/03 section 3.9). -/
def Channel.reset : Channel :=
  { state := .idle, cursor := 0, paused := false, skip := [], inFlight := [], asks := false }

/-- The Host Link after hard reset (spec/07 R161). -/
def HostLink.reset : HostLink :=
  { up := false, balance := 0, owed := 0, outstanding := 0, sent := [] }

/-- The Memory Link after hard reset (spec/06 R146). -/
def MemLink.reset : MemLink :=
  { up := false, credits := 0, fillPass := 0, lastGranted := .ch1, held := [], sent := [] }

/-- The Retention Controller's record after hard reset, and at the RESTART clear (spec/04 R80). -/
def Retention.reset : Retention :=
  { state := .active, releaseNeeded := false, pendingWake := false, exitAttempts := 0,
    keptLanes := BitVec.allOnes 8, keptBands := BitVec.allOnes 16, deadline := none,
    slpAck := false }

/-- The Notice Queue after hard reset (spec/08 R172). -/
def NoticeQueue.reset : NoticeQueue :=
  { records := [], lost := 0, counter := 0, attnLow := false }

/-- The Management Port after hard reset (spec/09 R180, R188). -/
def MgmtPort.reset : MgmtPort :=
  { frame := none, running := none,
    result := { command := none, outcome := .done, changed := 0, unchanged := 0 },
    rangeWalk := none }

/-- Mode control after hard reset (spec/10 R197). -/
def ModeControl.reset : ModeControl := { mode := .bypass, walk := none }

/-- The settings' defaults (spec/09 R190, R194). -/
def Settings.defaults : Settings :=
  { capacity := 2, granule := 0, fillWord := 0, voidPolicy := .flag, wakeOnAccess := true,
    fillShare := 4, respTimeout := 256, directiveTimeout := 8, floorLanes := 0, floorBands := 0,
    noticeMask := BitVec.allOnes 18 }

/-- The state right after reset: RST_N has risen with SLP_REQ low and chip-select high, every block
holds its hard-reset value, and no command waits. DESIGN CHOICE (notes/assumptions/1.md): the reset
state is taken just after RST_N has risen, and the levels of the input pins are the idle ones.
DESIGN CHOICE (notes/assumptions/2.md): the clock reads 0 and nothing has been sent. -/
def State.reset : State :=
  { pins := { inReset := false, slpReqHigh := false, csLow := false, hostReady := true,
              memReady := true },
    now := 0,
    tiles := Vector.replicate 128 .untracked,
    requests := [],
    dispatch := { headClass := none, claim := none },
    chan0 := Channel.reset,
    chan1 := Channel.reset,
    fillQueue := [],
    host := HostLink.reset,
    link := MemLink.reset,
    tags := Vector.replicate 48 .free,
    ret := Retention.reset,
    notices := NoticeQueue.reset,
    port := MgmtPort.reset,
    control := ModeControl.reset,
    settings := Settings.defaults,
    pending := [] }

end Sys2Proof.Machine
end

