-- ==== Sys2Proof/Machine/Operands.lean ====
section
/-! DEFINITION. What the fields of commands and messages mean: the decomposition of an address and
its inverse, burst data and merging, sets, and the encodings of the management frames. -/

namespace Sys2Proof.Machine

/-! ### Geometry -/

/-- C, the managed capacity in bytes: code n means 256 MiB × 2ⁿ (spec/09 R196). -/
def Settings.capacityBytes (g : Settings) : Nat := 268435456 * 2 ^ g.capacity.val

/-- G, the granule in bytes: code n means 4 KiB × 2ⁿ (spec/09 R196). -/
def Settings.granuleBytes (g : Settings) : Nat := 4096 * 2 ^ g.granule.val

/-- The size of a band, C/16 (spec/01 R2). -/
def Settings.bandBytes (g : Settings) : Nat := g.capacityBytes / 16

/-- The bursts of a tile, C/8192 (spec/01 R3). -/
def Settings.burstCount (g : Settings) : Nat := g.capacityBytes / 8192

/-- The burst address of an address: its six low bits taken as zero (spec/02 R32, spec/06 R126). -/
def burstAddr (a : Addr) : Addr := a &&& ~~~(63#33)

/-- The band of an address: A divided by C/16 (spec/01 R2). -/
def bandOfAddr (g : Settings) (a : Nat) : Nat := a / g.bandBytes

/-- The lane of an address: A divided by G, modulo 8 (spec/01 R2). -/
def laneOfAddr (g : Settings) (a : Nat) : Nat := a / g.granuleBytes % 8

/-- The tile of an address: band × 8 + lane (spec/01 R2). -/
def tileOfAddr (g : Settings) (a : Nat) : Tile :=
  Fin.ofNat 128 (bandOfAddr g a * 8 + laneOfAddr g a)

/-- The tile offset of an address: row × (G/64) + position (spec/01 R3). -/
def offsetOfAddr (g : Settings) (a : Nat) : Nat :=
  (a % g.bandBytes) / (8 * g.granuleBytes) * (g.granuleBytes / 64) + (a % g.granuleBytes) / 64

/-- The lane of a tile: its index modulo 8 (spec/01 R2). -/
def laneOf (t : Tile) : Lane := Fin.ofNat 8 (t.val % 8)

/-- The band of a tile: its index divided by 8 (spec/01 R2). -/
def bandOf (t : Tile) : Band := Fin.ofNat 16 (t.val / 8)

/-- The address of burst o of tile t (spec/01 R4). -/
def fillAddr (g : Settings) (t : Tile) (o : Nat) : Addr :=
  BitVec.ofNat 33
    (t.val / 8 * g.bandBytes
      + o / (g.granuleBytes / 64) * (8 * g.granuleBytes)
      + t.val % 8 * g.granuleBytes
      + o % (g.granuleBytes / 64) * 64)

/-! ### Burst data -/

/-- Byte j of the fill word (spec/09 R196: bytes 0 to 7 in the order of the value field). -/
def fillByte (w : BitVec 64) (j : Nat) : Byte := w.extractLsb' (8 * (7 - j)) 8

/-- Fill data: a burst whose beats all equal the fill word (spec/02 R43). -/
def fillBurst (w : BitVec 64) : Burst := Vector.ofFn fun i : Fin 64 => fillByte w (i.val % 8)

/-- A host write's data merged with the fill word: a byte whose flag is clear takes the fill byte at
its position within the beat (spec/02 R45). -/
def mergeBurst (w : BitVec 64) (mask : ByteMask) (data : Burst) : Burst :=
  Vector.ofFn fun i : Fin 64 => if mask.getLsbD i.val then data[i] else fillByte w (i.val % 8)

/-- The byte mask of a full write (spec/00). -/
def fullMask : ByteMask := BitVec.allOnes 64

/-- The body of a merged write, which is a full write; a read is as it was (spec/02 R45). -/
def mergeBody (w : BitVec 64) : ReqBody → ReqBody
  | .write mask data => .write fullMask (mergeBurst w mask data)
  | .read start => .read start

/-- The body of a fill write (spec/03 R59). -/
def fillBody (w : BitVec 64) : ReqBody := .write fullMask (fillBurst w)

/-! ### Sets -/

/-- Membership of a host tag in a set of host tags. -/
def hasTag (set : HostTagSet) (t : HostTag) : Bool := set.getLsbD t.val

/-- A set of host tags with one more member. -/
def addTag (set : HostTagSet) (t : HostTag) : HostTagSet := set ||| BitVec.twoPow 32 t.val

/-- A set of host tags without one member. -/
def dropTag (set : HostTagSet) (t : HostTag) : HostTagSet := set &&& ~~~BitVec.twoPow 32 t.val

/-- The set of numbers below n on which p holds, as a bit vector: bit i stands for i. -/
def memberBits (n : Nat) (p : Nat → Bool) : BitVec n :=
  (List.range n).foldl (fun acc i => if p i then acc ||| BitVec.twoPow n i else acc) 0

/-! ### Numbers as bytes -/

/-- The low n bytes of a number, most significant byte first (spec/09 R195). -/
def bytesBE : Nat → Nat → List Byte
  | 0, _ => []
  | n + 1, v => BitVec.ofNat 8 (v / 256 ^ n) :: bytesBE n v

/-- One byte holding a number. -/
def byteOf (v : Nat) : Byte := BitVec.ofNat 8 v

/-! ### Encodings (spec/09 R196) -/

/-- Acceptance byte ACCEPTED. -/
def acceptedByte : Byte := 0x5A

/-- Acceptance byte BUSY. -/
def busyByte : Byte := 0xB5

/-- Acceptance byte UNKNOWN. -/
def unknownByte : Byte := 0xC3

/-- Reply status OK. -/
def statusOk : Byte := 0

/-- Reply status MODE. -/
def statusMode : Byte := 1

/-- Reply status RANGE. -/
def statusRange : Byte := 3

/-- The absent tile or channel of READ_TILE and READ_CHANNEL. -/
def absentByte : Byte := 0xFF

/-- The code of an outcome. -/
def LongOutcome.code : LongOutcome → Byte
  | .running => 1
  | .done => 2
  | .refused _ => 3

/-- The code of a reason. -/
def Reason.code : Reason → Byte
  | .mode => 1
  | .state => 2
  | .range => 3

/-- The reason byte of an outcome: 0 where it carries no reason. -/
def LongOutcome.reasonCode : LongOutcome → Byte
  | .refused why => why.code
  | .running => 0
  | .done => 0

/-- The command code of a long command (spec/09 R195). -/
def LongCmd.code : LongCmd → Byte
  | .engage => 0x20
  | .disengage => 0x21
  | .discard => 0x22
  | .prepare => 0x23
  | .adopt => 0x24
  | .restart => 0x2F

/-- The command code of a result record; NONE is 0x00. -/
def commandCode : Option LongCmd → Byte
  | none => 0x00
  | some c => c.code

/-- The code of a mode. -/
def Mode.code : Mode → Byte
  | .bypass => 0
  | .engaging => 1
  | .engaged => 2
  | .disengaging => 3
  | .restarting => 4

/-- The code of a retention state. -/
def RetState.code : RetState → Byte
  | .active => 0
  | .draining => 1
  | .entering => 2
  | .retained => 3
  | .exiting => 4
  | .halted => 5

/-- The code of a tile state. -/
def TileState.code : TileState → Byte
  | .untracked => 0
  | .void => 1
  | .queued => 2
  | .filling _ => 3
  | .live => 4
  | .discarded => 5
  | .failed => 6

/-- The number of a channel. -/
def chanByte : Chan → Byte
  | .ch0 => 0
  | .ch1 => 1

/-- The channel byte of a tile record: the channel while FILLING, else the absent marker
(spec/09 R182). -/
def TileState.chanCode : TileState → Byte
  | .filling c => chanByte c
  | .untracked => absentByte
  | .void => absentByte
  | .queued => absentByte
  | .live => absentByte
  | .discarded => absentByte
  | .failed => absentByte

/-- The code of a channel state. -/
def ChanState.code : ChanState → Byte
  | .idle => 0
  | .filling _ => 1
  | .cancelling => 2

/-- The tile byte of a channel: its tile while FILLING, else the absent marker (spec/09 R183). -/
def ChanState.tileCode : ChanState → Byte
  | .filling t => byteOf t.val
  | .idle => absentByte
  | .cancelling => absentByte

/-- The code of a notice kind. -/
def NoticeKind.code : NoticeKind → Nat
  | .voidRead => 0
  | .range => 1
  | .tagClash => 2
  | .creditOverrun => 3
  | .asleepRefused => 4
  | .failedAccess => 5
  | .fillDone => 6
  | .fillRetry => 7
  | .fillFailed => 8
  | .responseTimeout => 9
  | .lateResponse => 10
  | .strayResponse => 11
  | .retainEntered => 12
  | .retainExited => 13
  | .entryTimeout => 14
  | .exitTimeout => 15
  | .halted => 16
  | .strayDirective => 17

/-- The code of a void policy. -/
def VoidPolicy.code : VoidPolicy → Nat
  | .silent => 0
  | .flag => 1
  | .refuse => 2

/-- The ENGAGE option an option byte stands for; any other byte is out of range. -/
def engageOption (b : Byte) : Option EngageOption :=
  if b = 0 then some .assumeLive else if b = 1 then some .assumeVoid else none

/-- Bit n of a flags byte. -/
def flagBit (n : Nat) (b : Bool) : Byte := if b then BitVec.twoPow 8 n else 0

/-! ### Settings by identifier (spec/09 R190, R192, R193, R196) -/

/-- The settings' identifiers. -/
inductive SettingId where
  | capacity
  | granule
  | fillWord
  | voidPolicy
  | wakeOnAccess
  | fillShare
  | respTimeout
  | directiveTimeout
  | floorLanes
  | floorBands
  | noticeMask
  deriving DecidableEq, Repr

/-- The setting an identifier byte names. -/
def settingOf (b : Byte) : Option SettingId :=
  match b.toNat with
  | 0x01 => some .capacity
  | 0x02 => some .granule
  | 0x03 => some .fillWord
  | 0x04 => some .voidPolicy
  | 0x05 => some .wakeOnAccess
  | 0x06 => some .fillShare
  | 0x07 => some .respTimeout
  | 0x08 => some .directiveTimeout
  | 0x09 => some .floorLanes
  | 0x0A => some .floorBands
  | 0x0B => some .noticeMask
  | _ => none

/-- The settings a SET may change only in BYPASS (spec/09 R190). -/
def SettingId.bypassOnly : SettingId → Bool
  | .capacity => true
  | .granule => true
  | .fillWord => true
  | .voidPolicy => false
  | .wakeOnAccess => false
  | .fillShare => false
  | .respTimeout => false
  | .directiveTimeout => false
  | .floorLanes => false
  | .floorBands => false
  | .noticeMask => false

/-- The number a GET returns for a setting (spec/09 R196). -/
def Settings.encode (g : Settings) : SettingId → Nat
  | .capacity => g.capacity.val
  | .granule => g.granule.val
  | .fillWord => g.fillWord.toNat
  | .voidPolicy => g.voidPolicy.code
  | .wakeOnAccess => g.wakeOnAccess.toNat
  | .fillShare => g.fillShare
  | .respTimeout => g.respTimeout
  | .directiveTimeout => g.directiveTimeout
  | .floorLanes => g.floorLanes.toNat
  | .floorBands => g.floorBands.toNat
  | .noticeMask => g.noticeMask.toNat

/-- The settings after a SET of one of them to the value a number encodes, or none where the number
is out of that setting's range (spec/09 R190, R196). -/
def Settings.put (g : Settings) (id : SettingId) (v : BitVec 64) : Option Settings :=
  let n := v.toNat
  match id with
  | .capacity => if n ≤ 5 then some { g with capacity := Fin.ofNat 6 n } else none
  | .granule => if n ≤ 4 then some { g with granule := Fin.ofNat 5 n } else none
  | .fillWord => some { g with fillWord := v }
  | .voidPolicy =>
    match n with
    | 0 => some { g with voidPolicy := .silent }
    | 1 => some { g with voidPolicy := .flag }
    | 2 => some { g with voidPolicy := .refuse }
    | _ => none
  | .wakeOnAccess =>
    match n with
    | 0 => some { g with wakeOnAccess := false }
    | 1 => some { g with wakeOnAccess := true }
    | _ => none
  | .fillShare => if 1 ≤ n ∧ n ≤ 15 then some { g with fillShare := n } else none
  | .respTimeout => if 16 ≤ n ∧ n ≤ 4096 then some { g with respTimeout := n } else none
  | .directiveTimeout => if 1 ≤ n ∧ n ≤ 64 then some { g with directiveTimeout := n } else none
  | .floorLanes => if n ≤ 255 then some { g with floorLanes := BitVec.ofNat 8 n } else none
  | .floorBands => if n ≤ 65535 then some { g with floorBands := BitVec.ofNat 16 n } else none
  | .noticeMask => if n ≤ 0x3FFFF then some { g with noticeMask := BitVec.ofNat 18 n } else none

end Sys2Proof.Machine
end

