-- ==== Sys2Proof/Machine/Flags.lean ====
section
/-! DEFINITION. The conditions and flags that the rules compute from the state: when dispatch runs,
when a channel asks for the issue slot, whom the arbiter grants, when a drain is done. -/

namespace Sys2Proof.Machine

/-! ### Channels and tiles -/

/-- The channel of a number. -/
def State.chan (s : State) : Chan → Channel
  | .ch0 => s.chan0
  | .ch1 => s.chan1

/-- The other channel. -/
def otherChan : Chan → Chan
  | .ch0 => .ch1
  | .ch1 => .ch0

/-- The channel is IDLE (spec/03 R47). -/
def Channel.isIdle (r : Channel) : Bool := r.state = .idle

/-- The in-flight entry is ISSUED. -/
def FlightEntry.isIssued (e : FlightEntry) : Bool :=
  match e.status with
  | .issued _ => true
  | .retryWait => false

/-- The in-flight entry is RETRY_WAIT. -/
def FlightEntry.isRetryWait (e : FlightEntry) : Bool :=
  match e.status with
  | .issued _ => false
  | .retryWait => true

/-- The RETRY_WAIT entry with the lowest offset: the list is in ascending order (spec/03 R64). -/
def Channel.nextRetry (r : Channel) : Option FlightEntry := r.inFlight.find? FlightEntry.isRetryWait

/-- The skip entry at an offset (spec/03 R50: there is at most one). -/
def Channel.skipAt (r : Channel) (o : Nat) : Option SkipEntry := r.skip.find? fun e => e.offset = o

/-- The in-flight list holds an entry at an offset (spec/02 R37). -/
def Channel.flightAt (r : Channel) (o : Nat) : Bool := r.inFlight.any fun e => e.offset = o

/-- The cursor burst is unrecorded and there is room for its fill write: the last case but one of
R55, without the pause (spec/03 R55, R58). -/
def Channel.cursorReady (bursts : Nat) (r : Channel) : Bool :=
  r.cursor < bursts && (r.skipAt r.cursor).isNone && r.inFlight.length < Config.inFlightBound

/-- The channel is FILLING. -/
def Channel.isFilling (r : Channel) : Bool :=
  match r.state with
  | .filling _ => true
  | .idle => false
  | .cancelling => false

/-- The channel asks the arbiter for the issue slot (spec/03 R57): FILLING, not paused, not in mode
RESTARTING, with a RETRY_WAIT entry or a cursor burst to issue. -/
def Channel.wants (mode : Mode) (bursts : Nat) (r : Channel) : Bool :=
  r.isFilling && !r.paused && mode != .restarting && (r.nextRetry.isSome || r.cursorReady bursts)

/-- Some record of the Tile Map counts toward the kept sets: LIVE or FILLING (spec/04 R89). -/
def TileState.counts : TileState → Bool
  | .live => true
  | .filling _ => true
  | .untracked => false
  | .void => false
  | .queued => false
  | .discarded => false
  | .failed => false

/-! ### Tag Pool -/

/-- The entry is IN_USE. -/
def TagEntry.isInUse : TagEntry → Bool
  | .inUse _ _ => true
  | .free => false
  | .quarantined _ => false

/-- The entry is QUARANTINED. -/
def TagEntry.isQuarantined : TagEntry → Bool
  | .quarantined _ => true
  | .free => false
  | .inUse _ _ => false

/-- The entry is FREE. -/
def TagEntry.isFree : TagEntry → Bool
  | .free => true
  | .inUse _ _ => false
  | .quarantined _ => false

/-- The lowest-numbered FREE tag (spec/06 R130). -/
def State.lowestFree (s : State) : Option Tag := (List.finRange 48).find? fun t => s.tags[t].isFree

/-- No downstream tag is IN_USE (spec/04 R86, spec/10 R206). -/
def State.noneInUse (s : State) : Bool := (List.finRange 48).all fun t => !s.tags[t].isInUse

/-- How many tags are IN_USE (spec/09 R181). -/
def State.inUseCount (s : State) : Nat := (List.finRange 48).countP fun t => s.tags[t].isInUse

/-- How many tags are QUARANTINED (spec/09 R181). -/
def State.quarantinedCount (s : State) : Nat :=
  (List.finRange 48).countP fun t => s.tags[t].isQuarantined

/-! ### Modes -/

/-- The mode has settled: BYPASS or ENGAGED. -/
def Mode.settled : Mode → Bool
  | .bypass => true
  | .engaged => true
  | .engaging => false
  | .disengaging => false
  | .restarting => false

/-- Dispatch runs: the mode is ENGAGED or BYPASS and the retention state ACTIVE (spec/02 R26). -/
def State.dispatchRuns (s : State) : Bool := s.control.mode.settled && s.ret.state = .active

/-- A drain is complete: DRAINING, no tag IN_USE, and the mode BYPASS or ENGAGED (spec/04 R86). Its
completion is the next event at the Retention Controller, unless SLP_REQ falls first. -/
def State.drainDone (s : State) : Bool :=
  s.ret.state = .draining && s.noneInUse && s.control.mode.settled

/-- A drain is to start: ACTIVE, SLP_REQ high, release-needed clear (spec/04 R84), and hard reset
ended (spec/12 R213). -/
def State.drainDue (s : State) : Bool :=
  s.ret.state = .active && s.pins.slpReqHigh && !s.ret.releaseNeeded && !s.pins.inReset

/-- Both channels are IDLE (spec/10 R203). -/
def State.bothIdle (s : State) : Bool := s.chan0.isIdle && s.chan1.isIdle

/-- A walk's claims are held: the running command is ADOPT and the retention state is neither
ACTIVE nor DRAINING (spec/04 R105). -/
def State.adoptHeld (s : State) : Bool :=
  match s.ret.state with
  | .active => false
  | .draining => false
  | .entering => true
  | .retained => true
  | .exiting => true
  | .halted => true

/-- A channel can take the head of the Fill Queue: IDLE, not paused, and not stopped by RESTART
(spec/01 R11, spec/03 R49, R78). -/
def State.canTake (s : State) (c : Chan) : Bool :=
  (s.chan c).isIdle && !(s.chan c).paused && s.control.mode != .restarting

/-- A take is due: the head tile of the Fill Queue is QUEUED and a channel can take it, which it does
at once (spec/03 R70, spec/05 R119). -/
def State.takeDue (s : State) : Bool :=
  match s.fillQueue with
  | [] => false
  | t :: _ => s.tiles[t] = .queued && (s.canTake .ch0 || s.canTake .ch1)

/-! ### Deadlines (spec/12 R213) -/

/-- The response deadline of an entry, while one runs (spec/06 R129). -/
def TagEntry.deadline : TagEntry → Option Micros
  | .inUse _ d => some d
  | .free => none
  | .quarantined _ => none

/-- A deadline, if it runs, does not lie before the instant d. -/
def notBefore (d : Micros) : Option Micros → Bool
  | none => true
  | some e => d ≤ e

/-- No running deadline, of a response or of a directive, lies before the instant d: the clock can
come to d without running past one (spec/12 R213). -/
def State.noneBefore (s : State) (d : Micros) : Bool :=
  ((List.finRange 48).all fun t => notBefore d s.tags[t].deadline) && notBefore d s.ret.deadline

/-- A deadline runs and is the first to pass. -/
def State.passesFirst (s : State) : Option Micros → Bool
  | none => false
  | some d => s.noneBefore d

/-- A deadline runs, falls at the clock's instant and is the first to pass. -/
def State.fallsNow (s : State) : Option Micros → Bool
  | none => false
  | some d => d ≤ s.now && s.noneBefore d

/-- The lowest-numbered tag whose response deadline falls now. -/
def State.dueTag (s : State) : Option Tag :=
  (List.finRange 48).find? fun t => s.fallsNow s.tags[t].deadline

/-- The event of a passing response deadline, by the entry's origin (spec/06 R139, R140). -/
def TagEntry.timeout (t : Tag) : TagEntry → Option Instr
  | .inUse (.host _ _ _ _) _ => some (.responseTimeout t)
  | .inUse (.fill _ _ _) _ => some (.fillWriteTimeout t)
  | .free => none
  | .quarantined _ => none

/-- The event of a passing directive deadline, by the retention state and the attempt count
(spec/04 R93, R99, R100). -/
def Retention.timeout (r : Retention) : Option Instr :=
  match r.state with
  | .entering => some .entryTimeout
  | .exiting =>
    if r.exitAttempts = 1 then some .exitTimeout
    else if r.exitAttempts = 2 then some .halt
    else none
  | .active => none
  | .draining => none
  | .retained => none
  | .halted => none

/-- The event of a deadline that falls at the clock's instant (spec/12 R213). DESIGN CHOICE
(notes/assumptions/4.md): of deadlines that fall together, the lower tag's comes first. -/
def State.dueTimeout (s : State) : Option Instr :=
  match s.dueTag with
  | some t => s.tags[t].timeout t
  | none => if s.fallsNow s.ret.deadline then s.ret.timeout else none

/-- The event that comes before any time passes: the completion of a drain whose conditions hold
(spec/04 R86; notes/assumptions/28.md), or a deadline that falls now. -/
def State.dueCommand (s : State) : Option Instr :=
  if s.drainDone then some .drainCompletion else s.dueTimeout

/-! ### The arbiter -/

/-- A requester of the issue slot (spec/06 R132). -/
inductive Requester where
  | head
  | chan (c : Chan)
  deriving DecidableEq, Repr

/-- The head's request stands (spec/06 R132). -/
def State.headAsks (s : State) : Bool := s.dispatch.headClass = some .forward

/-- Some channel's request stands. -/
def State.chanAsks (s : State) : Bool := s.chan0.asks || s.chan1.asks

/-- The channel that is granted when channels are to be served (spec/06 R133). -/
def State.chanChoice (s : State) : Option Chan :=
  if s.chan0.asks && s.chan1.asks then some (otherChan s.link.lastGranted)
  else if s.chan0.asks then some .ch0
  else if s.chan1.asks then some .ch1
  else none

/-- The arbiter's choice among the requests that stand (spec/06 R133). -/
def State.arbiterChoice (s : State) : Option Requester :=
  match s.headAsks, s.chanChoice with
  | false, none => none
  | false, some c => some (.chan c)
  | true, none => some .head
  | true, some c =>
    if s.link.fillPass < s.settings.fillShare then some .head else some (.chan c)

/-- The grant the arbiter gives (spec/06 R132): only with a FREE tag and a link credit. -/
def State.grant (s : State) : Option Requester :=
  if s.lowestFree.isSome && 0 < s.link.credits then s.arbiterChoice else none

/-! ### Flags bytes (spec/09 R195) -/

/-- The STATUS flags byte. -/
def State.statusFlags (s : State) : Byte :=
  flagBit 7 s.ret.releaseNeeded ||| flagBit 6 s.ret.pendingWake
    ||| BitVec.ofNat 8 (s.ret.exitAttempts * 16)
    ||| flagBit 3 s.ret.slpAck ||| flagBit 2 s.port.running.isSome

/-- The TAKE_NOTICE field-present flags. -/
def Notice.presentFlags (n : Notice) : Byte :=
  flagBit 0 n.tile.isSome ||| flagBit 1 n.addr.isSome ||| flagBit 2 n.hostTag.isSome
    ||| flagBit 3 n.chan.isSome ||| flagBit 4 n.kept.isSome

end Sys2Proof.Machine
end

