-- ==== Sys2Proof/Machine/Ops.lean ====
section
/-! DEFINITION. The operations the commands share: posting a notice, answering the host, returning
credits, sending on the memory link, the claims on the Tile Map with their paired changes in the
Fill Engine, and the events of retention and mode control that more than one command holds. -/

namespace Sys2Proof.Machine

/-! ### Parts of the state -/

/-- The record of one tile becomes x. -/
def State.setTile (s : State) (t : Tile) (x : TileState) : State :=
  { s with tiles := s.tiles.set t x }

/-- The entry of one downstream tag becomes e. -/
def State.setTag (s : State) (t : Tag) (e : TagEntry) : State := { s with tags := s.tags.set t e }

/-- A channel's record with its request to the arbiter as R57 has it in this mode and for this burst
count: made when the record calls for it and withdrawn when it no longer does. -/
def Channel.examined (mode : Mode) (bursts : Nat) (r : Channel) : Channel :=
  { r with asks := r.wants mode bursts }

/-- A channel's record becomes r, examined (spec/03 R55, R57). -/
def State.setChan (s : State) (c : Chan) (r : Channel) : State :=
  match c with
  | .ch0 => { s with chan0 := r.examined s.control.mode s.settings.burstCount }
  | .ch1 => { s with chan1 := r.examined s.control.mode s.settings.burstCount }

/-- Both channels examine themselves (spec/03 R55). -/
def State.examineChans (s : State) : State := (s.setChan .ch0 s.chan0).setChan .ch1 s.chan1

/-- Both pause flags take a value, and both channels examine themselves (spec/03 R49). -/
def State.setPaused (s : State) (b : Bool) : State :=
  (s.setChan .ch0 { s.chan0 with paused := b }).setChan .ch1 { s.chan1 with paused := b }

/-- Dispatch is suspended, or the head has left or changed: the head holds no classification, no
request to the arbiter and no claim (spec/02 R26). -/
def State.dropHead (s : State) : State :=
  { s with dispatch := { headClass := none, claim := none } }

/-- The head's standing classification, with no claim on its way. -/
def State.setHead (s : State) (h : HeadClass) : State :=
  { s with dispatch := { headClass := some h, claim := none } }

/-- The clock stands at an instant, or past it: a deadline passes (spec/12 R213). DESIGN CHOICE
(notes/assumptions/4.md): a deadline's event brings the clock to it. -/
def State.reach (s : State) (d : Micros) : State := { s with now := max s.now d }

/-- REFCLK counts one microsecond (spec/12 R213). DESIGN CHOICE (notes/assumptions/3.md): the tick
is what a step with no command waiting does where no drain completes and no deadline falls at the
clock's instant. -/
def State.tick (s : State) : State := { s with now := s.now + 1 }

/-! ### Notices (spec/08) -/

/-- The Notice Queue with one more counted notice: stored at the tail, which drives ATTN_N low, or
lost where it holds 32 records (spec/08 R164, R166, R170). -/
def NoticeQueue.count (q : NoticeQueue) (n : Notice) : NoticeQueue :=
  if q.records.length < Config.noticeBound then
    { q with records := q.records ++ [{ seq := q.counter, notice := n }],
             counter := q.counter + 1,
             attnLow := true }
  else
    { q with lost := min Config.lostBound (q.lost + 1), counter := q.counter + 1 }

/-- The Notice Queue after a posting under a mask: masked, stored or lost (spec/08 R164). -/
def NoticeQueue.posted (q : NoticeQueue) (mask : KindSet) (n : Notice) : NoticeQueue :=
  if mask.getLsbD n.kind.code then q.count n else q

/-- A notice is posted, under NOTICE_MASK as it stands (spec/08 R164, R171). -/
def State.post (s : State) (n : Notice) : State :=
  { s with notices := s.notices.posted s.settings.noticeMask n }

/-! ### The host link (spec/07) -/

/-- A RESPONSE is sent to the host, and its host tag stops being outstanding (spec/07 R155, R159).
-/
def State.respond (s : State) (t : HostTag) (st : HostStatus) (data : Option Burst) : State :=
  { s with host := { s.host with outstanding := dropTag s.host.outstanding t,
                                 sent := s.host.sent ++ [.response t st data] } }

/-- All credits owed go to the host in one CREDIT; none is sent where none is owed
(spec/07 R151, R156). -/
def HostLink.sendCredit (h : HostLink) : HostLink :=
  if h.owed = 0 then h
  else { h with balance := h.balance + h.owed, owed := 0, sent := h.sent ++ [.credit h.owed] }

/-- n credits are returned: they are owed, and sent in the same event (spec/07 R156). -/
def State.returnCredits (s : State) (n : Nat) : State :=
  { s with host := HostLink.sendCredit { s.host with owed := s.host.owed + n } }

/-- The head leaves the Request Queue, and the next request is yet to be classified (spec/02 R24).
-/
def State.popHead (s : State) : State := { s.dropHead with requests := s.requests.tail }

/-- Queued requests are answered one after the other in arrival order (spec/02 R25). -/
def State.respondAll (st : HostStatus) : List HostRequest → State → State
  | [], s => s
  | r :: rs, s => State.respondAll st rs (s.respond r.tag st none)

/-- A flush: every queued request is answered in arrival order, and one CREDIT carries all their
credits (spec/02 R25, spec/07 R151, R162). -/
def State.flush (s : State) (st : HostStatus) : State :=
  { (State.respondAll st s.requests s).returnCredits s.requests.length with
    requests := [], dispatch := { headClass := none, claim := none } }

/-! ### The memory link (spec/06) -/

/-- The Memory Link after a directive is sent: carried at once, or at link-up where the link state
is DOWN (spec/06 R144, R146). -/
def MemLink.direct (l : MemLink) (m : MemMsg) : MemLink :=
  if l.up then { l with sent := l.sent ++ [m] } else { l with held := l.held ++ [m] }

/-- A directive is sent (spec/06 R144). -/
def State.direct (s : State) (m : MemMsg) : State := { s with link := s.link.direct m }

/-- A REQUEST is issued under a tag: the tag becomes IN_USE with its origin and deadline, one link
credit is spent and the message is sent (spec/06 R128, R130). -/
def State.issue (s : State) (t : Tag) (o : Origin) (addr : Addr) (body : ReqBody) : State :=
  { s with
    tags := s.tags.set t (.inUse o (s.now + s.settings.respTimeout)),
    link := { s.link with credits := s.link.credits - 1,
                          sent := s.link.sent ++ [.request t addr body] } }

/-! ### The Fill Engine's lists (spec/03 R50 to R54) -/

/-- A skip entry at its place in ascending offset order (spec/03 R51). -/
def insertSkip (e : SkipEntry) : List SkipEntry → List SkipEntry
  | [] => [e]
  | x :: xs => if e.offset < x.offset then e :: x :: xs else x :: insertSkip e xs

/-- The skip entry at an offset returns to ISSUED under a tag (spec/03 R51). -/
def reissueSkip (o : Nat) (t : Tag) (xs : List SkipEntry) : List SkipEntry :=
  xs.map fun e => if e.offset = o then { e with status := .issued t } else e

/-- The outcome of a skip-linked write: the entry at the linked offset that is ISSUED under this tag
becomes CONFIRMED on OK and is removed otherwise; no other entry is touched (spec/03 R52). -/
def settleSkip (o : Nat) (t : Tag) (ok : Bool) : List SkipEntry → List SkipEntry
  | [] => []
  | e :: es =>
    if e.offset = o ∧ e.status = .issued t then
      if ok then { e with status := .confirmed } :: es else es
    else e :: settleSkip o t ok es

/-- The in-flight list without the entry at an offset. -/
def dropFlight (o : Nat) (xs : List FlightEntry) : List FlightEntry :=
  xs.filter fun e => e.offset ≠ o

/-- The in-flight entry at an offset takes an attempt and a status. -/
def setFlight (o : Nat) (a : Attempt) (st : FlightStatus) (xs : List FlightEntry) :
    List FlightEntry :=
  xs.map fun e => if e.offset = o then { e with attempt := a, status := st } else e

/-- The outcome of a skip-linked write is handed to the channel the link names; with no link
nothing is handed (spec/03 R52, spec/06 R137, R139). -/
def State.handSkip (s : State) (l : Option SkipLink) (t : Tag) (ok : Bool) : State :=
  match l with
  | none => s
  | some l =>
    s.setChan l.chan
      { s.chan l.chan with skip := settleSkip l.offset t ok (s.chan l.chan).skip }

/-! ### Channels entering and leaving FILLING (spec/03) -/

/-- A CANCELLING channel with nothing in flight becomes IDLE with cursor 0 (spec/03 R77). -/
def Channel.settled (r : Channel) : Channel :=
  if r.state = .cancelling ∧ r.inFlight = [] then { r with state := .idle, cursor := 0 } else r

/-- A channel enters CANCELLING: its skip list is cleared and its RETRY_WAIT entries go; with no
ISSUED entry left it is IDLE in the same event (spec/03 R76, R77). -/
def Channel.cancelled (r : Channel) : Channel :=
  Channel.settled { r with state := .cancelling, skip := [],
                           inFlight := r.inFlight.filter FlightEntry.isIssued }

/-- A channel becomes FILLING on a tile at cursor 0 with empty lists (spec/01 R8, R11). -/
def Channel.started (r : Channel) (t : Tile) : Channel :=
  { r with state := .filling t, cursor := 0, skip := [], inFlight := [] }

/-- A channel becomes IDLE on completion (spec/03 R67). -/
def Channel.finished (r : Channel) : Channel :=
  { r with state := .idle, cursor := 0, skip := [], inFlight := [] }

/-- A tile becomes FILLING on a channel, and the channel FILLING on it (spec/01 R8, R11). -/
def State.startFill (s : State) (t : Tile) (c : Chan) : State :=
  (s.setTile t (.filling c)).setChan c ((s.chan c).started t)

/-- The channel cancels (spec/03 R76). -/
def State.cancel (s : State) (c : Chan) : State := s.setChan c (s.chan c).cancelled

/-- A channel stands at its end: the cursor equals the burst count and both lists are empty
(spec/03 R67). -/
def Channel.atEnd (bursts : Nat) (r : Channel) : Bool :=
  r.cursor = bursts && r.skip.isEmpty && r.inFlight.isEmpty

/-- A FILLING channel at its end claims completion: the tile becomes LIVE, the channel IDLE, and
FILL_DONE is raised. A stopped channel makes no claim, and the claim expects the record FILLING
naming this channel (spec/01 R12, spec/03 R67, R78). -/
def State.tryComplete (s : State) (c : Chan) : State :=
  match (s.chan c).state with
  | .filling t =>
    if (s.chan c).atEnd s.settings.burstCount ∧ s.control.mode ≠ .restarting
        ∧ s.tiles[t] = .filling c then
      ((s.setTile t .live).setChan c (s.chan c).finished).post
        { kind := .fillDone, tile := some t, chan := some c }
    else s
  | .idle => s
  | .cancelling => s

/-- The second failure of a fill write claims failure of the tile: it becomes FAILED, the channel
cancels without the entry that failed, and FILL_FAILED is raised (spec/01 R12, spec/03 R65). -/
def State.failTile (s : State) (c : Chan) (t : Tile) (o : Nat) : State :=
  if s.tiles[t] = .filling c then
    ((s.setTile t .failed).setChan c
        (Channel.cancelled { s.chan c with inFlight := dropFlight o (s.chan c).inFlight })).post
      { kind := .fillFailed, tile := some t, addr := some (fillAddr s.settings t o), chan := some c }
  else s

/-- A first failure keeps the entry, as RETRY_WAIT at attempt 2, and raises FILL_RETRY
(spec/03 R62). -/
def State.retryFill (s : State) (c : Chan) (t : Tile) (o : Nat) : State :=
  (s.setChan c { s.chan c with inFlight := setFlight o .second .retryWait (s.chan c).inFlight }).post
    { kind := .fillRetry, tile := some t, addr := some (fillAddr s.settings t o), chan := some c }

/-- An in-flight entry leaves with its outcome ignored (spec/03 R66, R78). -/
def State.ignoreFill (s : State) (c : Chan) (o : Nat) : State :=
  s.setChan c
    (Channel.settled { s.chan c with inFlight := dropFlight o (s.chan c).inFlight })

/-- The in-flight entry at an offset that carries a tag (spec/06 R138). -/
def Channel.flightOf (r : Channel) (o : Nat) (t : Tag) : Option FlightEntry :=
  r.inFlight.find? fun e => e.offset = o && e.status = .issued t

/-- The outcome of a fill write is handed to its channel, a passed deadline as an ERROR
(spec/06 R138, R140; spec/03 R61, R62, R65, R66, R67, R78). -/
def State.handFill (s : State) (c : Chan) (o : Nat) (t : Tag) (ok : Bool) : State :=
  match (s.chan c).flightOf o t with
  | none => s
  | some e =>
    if s.control.mode = .restarting then s.ignoreFill c o
    else
      match (s.chan c).state with
      | .idle => s.ignoreFill c o
      | .cancelling => s.ignoreFill c o
      | .filling tile =>
        if ok then
          (s.setChan c
            { s.chan c with inFlight := dropFlight o (s.chan c).inFlight }).tryComplete c
        else
          match e.attempt with
          | .first => s.retryFill c tile o
          | .second => s.failTile c tile o

/-! ### Retention (spec/04) -/

/-- The instant a directive sent now is overdue (spec/04 R90, R97). -/
def State.directiveDeadline (s : State) : Micros :=
  s.now + s.settings.directiveTimeout * Config.microsPerMilli

/-- RETAIN_EXIT is sent at an attempt with a new deadline; the state is EXITING (spec/04 R97). -/
def State.sendExit (s : State) (attempt : Nat) : State :=
  let s' := s.direct .retainExit
  { s' with ret := { s'.ret with state := .exiting, exitAttempts := attempt,
                                 deadline := some s'.directiveDeadline } }

/-- Release-needed is set if SLP_REQ is high, and otherwise left as it is (spec/04 R82). -/
def State.needRelease (s : State) : State :=
  { s with ret := { s.ret with releaseNeeded := s.ret.releaseNeeded || s.pins.slpReqHigh } }

/-- A drain starts where one is due: DRAINING, both channels paused, dispatch suspended
(spec/04 R84). -/
def State.startDrain (s : State) : State :=
  if s.drainDue then
    { (s.setPaused true).dropHead with ret := { s.ret with state := .draining } }
  else s

/-- Some LIVE or FILLING tile lies in a lane (spec/04 R89). -/
def State.laneCounts (s : State) (l : Nat) : Bool :=
  (List.finRange 128).any fun t => (laneOf t).val == l && s.tiles[t].counts

/-- Some LIVE or FILLING tile lies in a band (spec/04 R89). -/
def State.bandCounts (s : State) (b : Nat) : Bool :=
  (List.finRange 128).any fun t => (bandOf t).val == b && s.tiles[t].counts

/-- The kept lanes of a census: in BYPASS all of them, else the floor with the lane of every LIVE or
FILLING tile (spec/04 R89). -/
def State.censusLanes (s : State) : LaneSet :=
  if s.control.mode = .bypass then BitVec.allOnes 8
  else s.settings.floorLanes ||| memberBits 8 s.laneCounts

/-- The kept bands of a census (spec/04 R89). -/
def State.censusBands (s : State) : BandSet :=
  if s.control.mode = .bypass then BitVec.allOnes 16
  else s.settings.floorBands ||| memberBits 16 s.bandCounts

/-- The tile lies in the kept product of two sets (spec/04 R89). -/
def keptTile (lanes : LaneSet) (bands : BandSet) (t : Tile) : Bool :=
  lanes.getLsbD (laneOf t).val && bands.getLsbD (bandOf t).val

/-- The drop: every DISCARDED tile outside the kept product becomes VOID (spec/01 R15). -/
def dropTiles (lanes : LaneSet) (bands : BandSet) (tiles : Vector TileState 128) :
    Vector TileState 128 :=
  Vector.ofFn fun t : Tile =>
    if tiles[t] = .discarded ∧ keptTile lanes bands t = false then .void else tiles[t]

/-- Drain completion: the census, the drop, RETAIN_ENTER with its deadline, ENTERING
(spec/04 R90). -/
def State.completeDrain (s : State) : State :=
  let lanes := s.censusLanes
  let bands := s.censusBands
  let s' := s.direct (.retainEnter lanes bands)
  { s' with tiles := dropTiles lanes bands s'.tiles,
            ret := { s'.ret with state := .entering, keptLanes := lanes, keptBands := bands,
                                 deadline := some s'.directiveDeadline } }

/-- A drain that this event completes is completed in it (spec/04 R86). -/
def State.settleDrain (s : State) : State := if s.drainDone then s.completeDrain else s

/-! ### Mode control (spec/10) -/

/-- Every record UNTRACKED with no channel field (spec/01 R17, R18). -/
def noTiles : Vector TileState 128 := Vector.replicate 128 .untracked

/-- The running long command is done: the outcome becomes DONE and no command runs
(spec/09 R187). -/
def MgmtPort.finish (p : MgmtPort) : MgmtPort :=
  { p with running := none, rangeWalk := none, result := { p.result with outcome := .done } }

/-- The end of DISENGAGE: every tile UNTRACKED, mode BYPASS, DONE (spec/10 R203). A drain that the
mode held up completes in the same event (spec/04 R86). -/
def State.endDisengage (s : State) : State :=
  State.settleDrain
    { s with tiles := noTiles, control := { s.control with mode := .bypass },
             port := s.port.finish }

/-- DISENGAGE ends in the event in which both channels are IDLE (spec/10 R203). -/
def State.settleDisengage (s : State) : State :=
  if s.control.mode = .disengaging ∧ s.bothIdle then s.endDisengage else s

/-- A channel at the RESTART clear (spec/03 R78). -/
def Channel.cleared : Channel := Channel.reset

/-- The RESTART clear (spec/10 R206): tiles, channels, Fill Queue, arbiter counts, the Retention
Controller's record and the Notice Queue are cleared, the links, settings, quarantined tags and
sequence counter are kept, and a drain starts if SLP_REQ is high (spec/04 R84, R107). -/
def State.clear (s : State) : State :=
  State.startDrain
    { s with tiles := noTiles,
             chan0 := Channel.cleared, chan1 := Channel.cleared, fillQueue := [],
             link := { s.link with fillPass := 0, lastGranted := .ch1 },
             ret := Retention.reset,
             notices := { s.notices with records := [], lost := 0, attnLow := false },
             control := { mode := .bypass, walk := none },
             port := s.port.finish }

/-- The RESTART clear is taken in the event that leaves no tag IN_USE (spec/10 R206). -/
def State.settleRestart (s : State) : State :=
  if s.control.mode = .restarting ∧ s.noneInUse then s.clear else s

/-- What the settling of an IN_USE tag completes in the same event, after its own effects: the
RESTART clear, or the end of DISENGAGE, or a drain (spec/04 R86, spec/10 R203, R206). -/
def State.settleTag (s : State) : State :=
  match s.control.mode with
  | .restarting => s.settleRestart
  | .disengaging => s.settleDisengage
  | .bypass => s.settleDrain
  | .engaged => s.settleDrain
  | .engaging => s

end Sys2Proof.Machine
end

