-- ==== Sys2Proof/Machine/DispatchEvents.lean ====
section
/-! DEFINITION. The commands of the Dispatch Unit: the classification of the head, its claims on the
Tile Map, and its grant. -/

namespace Sys2Proof.Machine

/-! ### Classification -/

/-- What issuing the head at its grant brings with it (spec/02 R44): nothing; the write claim that
makes a DISCARDED tile LIVE (R35); the re-issue of a CONFIRMED skip entry (R40); or the merge and a
new skip entry (R41). -/
inductive IssueForm where
  | plain
  | writeClaim (t : Tile)
  | reissue (c : Chan) (o : Nat)
  | insert (c : Chan) (o : Nat)
  deriving DecidableEq, Repr

/-- A classification of the head (spec/02 R28): LOCAL with status, data and notice; FORWARD; WAIT;
or a claim on the Tile Map before the outcome is reached. -/
inductive Decision where
  | answer (st : HostStatus) (data : Option Burst) (notice : Option Notice)
  | forward (how : IssueForm)
  | wait
  | claim (c : DispatchClaim)
  deriving DecidableEq, Repr

/-- A notice about the head: its burst address and host tag, and its tile where the kind has one
(spec/08 R163). -/
def headNotice (k : NoticeKind) (t : Option Tile) (r : HostRequest) : Notice :=
  { kind := k, tile := t, addr := some (burstAddr r.addr), hostTag := some r.tag }

/-- A read of a VOID or QUEUED tile, by VOID_POLICY (spec/02 R33). -/
def voidAnswer (g : Settings) (t : Tile) (r : HostRequest) : Decision :=
  match g.voidPolicy with
  | .silent => .answer .okay (some (fillBurst g.fillWord)) none
  | .flag =>
    .answer .void (some (fillBurst g.fillWord)) (some (headNotice .voidRead (some t) r))
  | .refuse => .answer .refused none (some (headNotice .voidRead (some t) r))

/-- The claim of a write that finds its tile VOID: a fill start on the IDLE channel of lower number,
or queue-at-head where neither is IDLE (spec/01 R8, R9, spec/02 R34). -/
def voidWriteClaim (s : State) (t : Tile) : DispatchClaim :=
  if s.chan0.isIdle then .fillStart t .ch0
  else if s.chan1.isIdle then .fillStart t .ch1
  else .queueAtHead t

/-- The head against a tile FILLING on channel c (spec/02 R37 to R41). -/
def classifyFilling (s : State) (c : Chan) (o : Nat) (r : HostRequest) : Decision :=
  let ch := s.chan c
  if ch.flightAt o then .wait
  else if o < ch.cursor then .forward .plain
  else
    match r.body.kind, ch.skipAt o with
    | .read, some _ => .forward .plain
    | .read, none => .answer .okay (some (fillBurst s.settings.fillWord)) none
    | .write, some e => if e.status = .confirmed then .forward (.reissue c o) else .wait
    | .write, none =>
      if ch.skip.length < Config.skipBound then .forward (.insert c o) else .wait

/-- The head against its tile's record (spec/02 R33 to R41). In ENGAGED no tile is UNTRACKED
(spec/01 R6); a head that met one would be forwarded as received, as in BYPASS. DEDUCED
(notes/assumptions/13.md). -/
def classifyTile (s : State) (t : Tile) (o : Nat) (r : HostRequest) : Decision :=
  match s.tiles[t], r.body.kind with
  | .untracked, _ => .forward .plain
  | .void, .read => voidAnswer s.settings t r
  | .queued, .read => voidAnswer s.settings t r
  | .void, .write => .claim (voidWriteClaim s t)
  | .queued, .write => .claim (.promotion t)
  | .live, _ => .forward .plain
  | .discarded, .read => .forward .plain
  | .discarded, .write => .forward (.writeClaim t)
  | .failed, _ => .answer .refused none (some (headNotice .failedAccess (some t) r))
  | .filling c, _ => classifyFilling s c o r

/-- The classification of the head (spec/02 R31, R32): in BYPASS always FORWARD; otherwise an
address at or above C is refused, and one below it is classified by its tile. -/
def classify (s : State) (r : HostRequest) : Decision :=
  if s.control.mode = .bypass then .forward .plain
  else
    let a := (burstAddr r.addr).toNat
    if s.settings.capacityBytes ≤ a then
      .answer .refused none (some (headNotice .range none r))
    else classifyTile s (tileOfAddr s.settings a) (offsetOfAddr s.settings a) r

/-! ### What a classification does -/

/-- A notice is posted where there is one. -/
def State.postSome (s : State) : Option Notice → State
  | none => s
  | some n => s.post n

/-- A local answer: the notice is posted, the RESPONSE is sent, the head leaves the queue and its
credit is returned (spec/02 R43). -/
def State.answerHead (s : State) (r : HostRequest) (st : HostStatus) (data : Option Burst)
    (n : Option Notice) : State :=
  (((s.postSome n).respond r.tag st data).popHead).returnCredits 1

/-- A claim is made (spec/01 R7): it is on its way to the Tile Map. A fill start leaves the outcome
to the classification that follows; the other two make the head wait (spec/02 R34). -/
def State.makeClaim (s : State) (c : DispatchClaim) : State :=
  match c with
  | .fillStart t ch => { s with dispatch := { headClass := none, claim := some (.fillStart t ch) } }
  | .queueAtHead t => { s with dispatch := { headClass := some .wait, claim := some (.queueAtHead t) } }
  | .promotion t => { s with dispatch := { headClass := some .wait, claim := some (.promotion t) } }

/-- The provisional outcome of a classification of the head r (spec/02 R28). -/
def State.settleHead (s : State) (r : HostRequest) : Decision → State
  | .answer st data n => s.answerHead r st data n
  | .forward _ => s.setHead .forward
  | .wait => s.setHead .wait
  | .claim c => s.makeClaim c

/-- HEAD_CLASSIFICATION (spec/02 R28, R30): the head is classified while dispatch runs. With
dispatch suspended or no head there is nothing to classify. -/
def execHeadClassification (s : State) : Host.Outcome State Fault Refusal :=
  .next
    (match s.requests with
    | [] => s
    | r :: _ => if s.dispatchRuns then s.settleHead r (classify s r) else s)

/-! ### Claims -/

/-- The queue-at-head claim of R9 on tile t, as it arrives: the record becomes QUEUED and the tile
goes to the head of the Fill Queue; a record no longer VOID is left, and the head is to be
classified again. -/
def State.takeQueueAtHead (s : State) (t : Tile) : State :=
  if s.tiles[t] = .void then
    { (s.setTile t .queued).setHead .wait with fillQueue := t :: s.fillQueue }
  else s.dropHead

/-- FILL_START (spec/01 R7, R8): the fill start arrives. On a VOID record the tile starts on the
chosen channel, or on the other where the chosen one is no longer IDLE; where neither is IDLE the
write is handled as in R9. The head is then to be classified again (R30). -/
def execFillStart (s : State) : Host.Outcome State Fault Refusal :=
  .next
    (match s.dispatch.claim with
    | some (.fillStart t c) =>
      if s.dispatchRuns then
        if s.tiles[t] = .void then
          if (s.chan c).isIdle then (s.startFill t c).dropHead
          else if (s.chan (otherChan c)).isIdle then (s.startFill t (otherChan c)).dropHead
          else s.makeClaim (.queueAtHead t)
        else s.dropHead
      else s
    | some (.queueAtHead _) => s
    | some (.promotion _) => s
    | none => s)

/-- QUEUE_AT_HEAD (spec/01 R7, R9): the queue-at-head arrives. -/
def execQueueAtHead (s : State) : Host.Outcome State Fault Refusal :=
  .next
    (match s.dispatch.claim with
    | some (.queueAtHead t) => if s.dispatchRuns then s.takeQueueAtHead t else s
    | some (.fillStart _ _) => s
    | some (.promotion _) => s
    | none => s)

/-- PROMOTION (spec/01 R9, spec/03 R69): the promotion arrives. On a QUEUED record the tile moves to
the head of the Fill Queue, the others keeping their order; otherwise nothing changes and the head
is to be classified again. -/
def execPromotion (s : State) : Host.Outcome State Fault Refusal :=
  .next
    (match s.dispatch.claim with
    | some (.promotion t) =>
      if s.dispatchRuns then
        if s.tiles[t] = .queued then
          { s.setHead .wait with fillQueue := t :: s.fillQueue.erase t }
        else s.dropHead
      else s
    | some (.fillStart _ _) => s
    | some (.queueAtHead _) => s
    | none => s)

/-! ### The grant -/

/-- The skip link that an issue records in the tag's entry (spec/06 R129). -/
def IssueForm.link : IssueForm → Option SkipLink
  | .plain => none
  | .writeClaim _ => none
  | .reissue c o => some { chan := c, offset := o }
  | .insert c o => some { chan := c, offset := o }

/-- The body the downstream REQUEST carries: merged under R41, as received otherwise
(spec/02 R44, R45). -/
def IssueForm.body (g : Settings) (how : IssueForm) (b : ReqBody) : ReqBody :=
  match how with
  | .insert _ _ => mergeBody g.fillWord b
  | .plain => b
  | .writeClaim _ => b
  | .reissue _ _ => b

/-- The tile and skip-list effects of an issue under tag t (spec/02 R44). -/
def State.issueEffect (s : State) (t : Tag) : IssueForm → State
  | .plain => s
  | .writeClaim tile => s.setTile tile .live
  | .reissue c o => s.setChan c { s.chan c with skip := reissueSkip o t (s.chan c).skip }
  | .insert c o =>
    s.setChan c
      { s.chan c with skip := insertSkip { offset := o, status := .issued t } (s.chan c).skip }

/-- The fill-pass count after a used grant to the head (spec/06 R134). -/
def State.passHead (s : State) : State :=
  if s.chanAsks then { s with link := { s.link with fillPass := s.link.fillPass + 1 } } else s

/-- The head is issued under tag t: the REQUEST is sent, the tag's record is filled in, the skip
entry or tile changes, and the request leaves the queue with its credit returned (spec/02 R44). -/
def State.issueHead (s : State) (r : HostRequest) (t : Tag) (how : IssueForm) : State :=
  ((((s.passHead.issue t (.host r.body.kind (burstAddr r.addr) r.tag how.link)
        (burstAddr r.addr) (how.body s.settings r.body)).issueEffect t how).popHead)).returnCredits 1

/-- The head acts on its grant by its grant-time classification: FORWARD issues it, and any other
outcome leaves the grant unused (spec/02 R29). -/
def State.grantHead (s : State) (r : HostRequest) (t : Tag) : State :=
  match classify s r with
  | .forward how => s.issueHead r t how
  | .answer st data n => s.answerHead r st data n
  | .wait => s.setHead .wait
  | .claim c => s.makeClaim c

/-- HEAD_GRANT (spec/02 R29, spec/06 R132 to R134): the arbiter's grant, where its choice is the
head. Where the arbiter gives the head no grant, nothing happens. -/
def execHeadGrant (s : State) : Host.Outcome State Fault Refusal :=
  .next
    (match s.requests, s.lowestFree with
    | r :: _, some t =>
      if s.dispatchRuns ∧ s.grant = some .head then s.grantHead r t else s
    | [], some _ => s
    | [], none => s
    | _ :: _, none => s)

end Sys2Proof.Machine
end

