-- ==== Sys2Proof/Machine/FillEngine.lean ====
section
/-! DEFINITION. The commands of the Fill Engine: the grant of a channel, the take from the Fill Queue
and the step over a CONFIRMED skip entry. -/

namespace Sys2Proof.Machine

/-- A used grant to a channel: the fill-pass count becomes 0 and the channel is the last granted
(spec/06 R134). -/
def State.passChan (s : State) (c : Chan) : State :=
  { s with link := { s.link with fillPass := 0, lastGranted := c } }

/-- A fill write of burst o of tile t is sent under a tag (spec/03 R59, spec/06 R130). -/
def State.issueFill (s : State) (c : Chan) (t : Tile) (o : Nat) (tag : Tag) : State :=
  (s.passChan c).issue tag (.fill (fillAddr s.settings t o) c o) (fillAddr s.settings t o)
    (fillBody s.settings.fillWord)

/-- The retry is reissued: its entry becomes ISSUED under the tag and keeps attempt 2; the cursor
does not move (spec/03 R64). -/
def State.reissueRetry (s : State) (c : Chan) (t : Tile) (o : Nat) (tag : Tag) : State :=
  (s.issueFill c t o tag).setChan c
    { s.chan c with inFlight := setFlight o .second (.issued tag) (s.chan c).inFlight }

/-- The cursor burst is issued: an in-flight entry is added and the cursor advances
(spec/03 R58). -/
def State.issueCursor (s : State) (c : Chan) (t : Tile) (tag : Tag) : State :=
  (s.issueFill c t (s.chan c).cursor tag).setChan c
    { s.chan c with
      cursor := (s.chan c).cursor + 1,
      inFlight := (s.chan c).inFlight ++
        [{ offset := (s.chan c).cursor, attempt := .first, status := .issued tag }] }

/-- The channel acts on its grant by what it finds (spec/03 R58): a retry first, else the cursor
burst, else the grant goes unused and the channel examines itself (R55). -/
def State.grantChan (s : State) (c : Chan) (tag : Tag) : State :=
  match (s.chan c).state with
  | .filling t =>
    if (s.chan c).paused ∨ s.control.mode = .restarting then s.setChan c (s.chan c)
    else
      match (s.chan c).nextRetry with
      | some e => s.reissueRetry c t e.offset tag
      | none =>
        if (s.chan c).cursorReady s.settings.burstCount then s.issueCursor c t tag
        else s.setChan c (s.chan c)
  | .idle => s.setChan c (s.chan c)
  | .cancelling => s.setChan c (s.chan c)

/-- CHANNEL_GRANT (spec/03 R58, spec/06 R132 to R134): the arbiter's grant, where its choice is this
channel. Where the arbiter gives the channel no grant, nothing happens. -/
def execChannelGrant (c : Chan) (s : State) : Host.Outcome State Fault Refusal :=
  .next
    (match s.lowestFree with
    | some tag => if s.grant = some (.chan c) then s.grantChan c tag else s
    | none => s)

/-- A channel may take: it can, and channel 1 leaves the head tile to channel 0 where both can
(spec/03 R71). -/
def State.mayTake (s : State) (c : Chan) : Bool :=
  match c with
  | .ch0 => s.canTake .ch0
  | .ch1 => s.canTake .ch1 && !s.canTake .ch0

/-- TAKE (spec/01 R11, spec/03 R70, R71): the head tile of the Fill Queue becomes FILLING on the
channel and leaves the queue. Where the channel cannot take, or the claim finds the record not
QUEUED, nothing happens. -/
def execTake (c : Chan) (s : State) : Host.Outcome State Fault Refusal :=
  .next
    (match s.fillQueue with
    | [] => s
    | t :: rest =>
      if s.mayTake c ∧ s.tiles[t] = .queued then
        { s.startFill t c with fillQueue := rest }
      else s)

/-- The channel steps over the entry under its cursor: the entry goes and the cursor advances by
one; at the end of the tile completion is claimed (spec/03 R56, R67). -/
def State.stepCursor (s : State) (c : Chan) : State :=
  (s.setChan c
    { s.chan c with
      cursor := (s.chan c).cursor + 1,
      skip := (s.chan c).skip.filter fun e => e.offset ≠ (s.chan c).cursor }).tryComplete c

/-- CURSOR_STEP (spec/03 R56): of a FILLING channel, not stopped by RESTART (R78), whose cursor
burst has a CONFIRMED entry. In any other situation there is no step, and nothing happens. -/
def execCursorStep (c : Chan) (s : State) : Host.Outcome State Fault Refusal :=
  .next
    (match (s.chan c).skipAt (s.chan c).cursor with
    | some e =>
      if (s.chan c).isFilling ∧ s.control.mode ≠ .restarting ∧ e.status = .confirmed then
        s.stepCursor c
      else s
    | none => s)

end Sys2Proof.Machine
end

