-- ==== Sys2Proof/Machine/HostLink.lean ====
section
/-! DEFINITION. The commands of the host link: REQUEST and HOST_LINK_UP. -/

namespace Sys2Proof.Machine

/-- A notice about a host request: its burst address and host tag (spec/08 R163). -/
def requestNotice (k : NoticeKind) (r : HostRequest) : Notice :=
  { kind := k, addr := some (burstAddr r.addr), hostTag := some r.tag }

/-- The request joins the tail of the Request Queue (spec/02 R23). -/
def State.append (s : State) (r : HostRequest) : State := { s with requests := s.requests ++ [r] }

/-- An admitted request is refused at arrival: answered REFUSED, and its credit returned in the same
event (spec/02 R23, spec/07 R152). -/
def State.refuseArrival (s : State) (r : HostRequest) : State :=
  (s.respond r.tag .refused none).returnCredits 1

/-- An admitted request is handed to the Request Queue, which handles it by the retention state
(spec/02 R23, spec/04 R83, R96). -/
def State.handArrival (s : State) (r : HostRequest) : State :=
  match s.ret.state with
  | .active => s.append r
  | .draining => s.append r
  | .exiting => s.append r
  | .entering =>
    if s.settings.wakeOnAccess then
      let s' := s.append r
      { s' with ret := { s'.ret with pendingWake := true } }
    else s.append r
  | .retained =>
    if s.settings.wakeOnAccess then (s.append r).needRelease.sendExit 1
    else (s.post (requestNotice .asleepRefused r)).refuseArrival r
  | .halted => s.refuseArrival r

/-- A request that passes the credit check uses one credit; it is a tag clash if its host tag is
outstanding, and is admitted otherwise (spec/07 R152, R154). -/
def State.receive (s : State) (r : HostRequest) : State :=
  let h := { s.host with balance := s.host.balance - 1 }
  if hasTag h.outstanding r.tag then
    ({ s with host := h }.post (requestNotice .tagClash r)).returnCredits 1
  else
    { s with host := { h with outstanding := addTag h.outstanding r.tag } }.handArrival r

/-- REQUEST (spec/07 R152 to R154, spec/02 R23). While the link state is DOWN the bundle delivers no
message (R161). -/
def execRequest (r : HostRequest) (s : State) : Host.Outcome State Fault Refusal :=
  .next
    (if s.host.up then
      if s.host.balance = 0 then s.post (requestNotice .creditOverrun r) else s.receive r
    else s)

/-- HOST_LINK_UP (spec/07 R161, spec/12 R213): one link-up per hard reset, after its end; the link
state becomes UP and CREDIT(16) is sent. -/
def execHostLinkUp (s : State) : Host.Outcome State Fault Refusal :=
  .next
    (if s.pins.inReset ∨ s.host.up then s
    else { s with host := { s.host with up := true } }.returnCredits Config.hostCredits)

end Sys2Proof.Machine
end

