-- ==== Sys2Proof/WellFormed.lean ====
section
/-! DEFINITION. Which commands are well formed. Every operand but one has a type with exactly the
values its field has in spec/, and every value of those is accepted by the part (R149, R179). The
one check left is that the code of an UNKNOWN_COMMAND frame names no command. -/

namespace Sys2Proof

/-- An UNKNOWN_COMMAND's code is none of the thirteen (R175, R179); every other command is well
formed whatever its operands. -/
def Instr.wellFormed : Instr → Bool
  | .unknownCommand code => !knownCodes.contains code
  | .request _ => true
  | .hostLinkUp => true
  | .memoryLinkUp => true
  | .response _ _ _ => true
  | .credit _ => true
  | .enterDone => true
  | .exitDone => true
  | .responseTimeout _ => true
  | .fillWriteTimeout _ => true
  | .entryTimeout => true
  | .exitTimeout => true
  | .halt => true
  | .slpReqRise => true
  | .slpReqFall => true
  | .drainCompletion => true
  | .hardReset => true
  | .hardResetEnd => true
  | .headClassification => true
  | .fillStart => true
  | .queueAtHead => true
  | .promotion => true
  | .headGrant => true
  | .channelGrant _ => true
  | .take _ => true
  | .cursorStep _ => true
  | .status => true
  | .result => true
  | .get _ => true
  | .set _ _ => true
  | .readTile _ => true
  | .readChannel _ => true
  | .takeNotice => true
  | .frameAbandon => true
  | .engage _ => true
  | .engageWalkClaim => true
  | .disengage => true
  | .disengageEnd => true
  | .restart => true
  | .restartClear => true
  | .discard _ _ => true
  | .discardClaim => true
  | .prepare _ _ => true
  | .prepareClaim => true
  | .adopt _ _ => true
  | .adoptClaim => true
  | .frameBegin => true
  | .frameEnd => true

end Sys2Proof
end

