-- ==== Sys2Proof/Machine/Port.lean ====
section
/-! DEFINITION. The management port: frames, the immediate commands, and how a long command is taken
from a frame. -/

namespace Sys2Proof.Machine

/-! ### Frames (spec/09 R174 to R177) -/

/-- The frame becomes f. -/
def State.setFrame (s : State) (f : Option Frame) : State :=
  { s with port := { s.port with frame := f } }

/-- A frame as chip-select's fall begins it: no byte shifted, and 0x00 driven for byte 0. -/
def Frame.begun : Frame := { position := 0, decided := false, dataOut := [0x00] }

/-- A frame ignored from its byte 0 on: it carries an acceptance byte and then 0x00
(spec/09 R175). -/
def Frame.ignored (acceptance : Byte) : Frame :=
  { position := 1, decided := true, dataOut := [0x00, acceptance] }

/-- A frame whose command was taken at the end of byte t: data out is 0x00, ACCEPTED, 0x00 in bytes
2 to t, and the reply from byte t + 1 on (spec/09 R174, R176). -/
def Frame.accepted (t : Nat) (reply : List Byte) : Frame :=
  { position := t + 1, decided := true,
    dataOut := [0x00, acceptedByte] ++ List.replicate (t - 1) 0x00 ++ reply }

/-- The port can take a command: a frame is in progress and its command is not yet decided. -/
def State.frameOpen (s : State) : Bool :=
  match s.port.frame with
  | none => false
  | some f => !f.decided

/-- A command is taken from the frame at the end of byte t. The event is `after`, and the reply is
read from the state it leaves (spec/09 R176). Outside a frame, or in one already decided, data in is
disregarded (R174, R175, R177). -/
def State.takeCommand (s : State) (t : Nat) (after : State) (reply : List Byte) : State :=
  if s.frameOpen then after.setFrame (some (Frame.accepted t reply)) else s

/-- FRAME_BEGIN (spec/09 R174, R180): chip-select falls. While RST_N is low no frame begins. -/
def execFrameBegin (s : State) : Host.Outcome State Fault Refusal :=
  .next
    (if s.pins.csLow then s
    else
      let s' := { s with pins := { s.pins with csLow := true } }
      if s.pins.inReset then s' else s'.setFrame (some Frame.begun))

/-- Chip-select rises: the frame, if one is in progress, is over and data out is no longer driven
(spec/09 R174, R177). -/
def State.raiseSelect (s : State) : State :=
  if s.pins.csLow then { s with pins := { s.pins with csLow := false } }.setFrame none else s

/-- FRAME_END (spec/09 R177): chip-select rises after the command was taken, whose effects stand. -/
def execFrameEnd (s : State) : Host.Outcome State Fault Refusal := .next s.raiseSelect

/-- FRAME_ABANDON (spec/09 R177): chip-select rises before the command is taken, which then changes
nothing. -/
def execFrameAbandon (s : State) : Host.Outcome State Fault Refusal := .next s.raiseSelect

/-- UNKNOWN_COMMAND (spec/09 R175, R179): the frame is answered UNKNOWN and ignored. A code that
names a command is not this event. -/
def execUnknownCommand (code : Byte) (s : State) : Host.Outcome State Fault Refusal :=
  .next
    (if s.frameOpen ∧ (Instr.unknownCommand code).wellFormed then
      s.setFrame (some (Frame.ignored unknownByte))
    else s)

/-! ### Replies (spec/09 R195) -/

/-- The reply of STATUS (spec/09 R181). -/
def State.statusReply (s : State) : List Byte :=
  [s.control.mode.code, s.ret.state.code, s.statusFlags, byteOf s.requests.length,
    s.chan0.state.code, s.chan1.state.code, byteOf s.fillQueue.length,
    byteOf s.notices.records.length] ++ bytesBE 2 s.notices.lost
    ++ [byteOf s.inUseCount, byteOf s.quarantinedCount]

/-- The reply of RESULT (spec/09 R189). -/
def ResultRecord.reply (r : ResultRecord) : List Byte :=
  [commandCode r.command, r.outcome.code, r.outcome.reasonCode, byteOf r.changed,
    byteOf r.unchanged]

/-- The reply of GET (spec/09 R192). -/
def Settings.getReply (g : Settings) (ident : Byte) : List Byte :=
  match settingOf ident with
  | some id => statusOk :: bytesBE 8 (g.encode id)
  | none => statusRange :: List.replicate 8 0x00

/-- The reply of READ_TILE (spec/09 R182). -/
def State.tileReply (s : State) (index : Byte) : List Byte :=
  if h : index.toNat < 128 then
    [statusOk, s.tiles[index.toNat].code, s.tiles[index.toNat].chanCode]
  else [statusRange, 0x00, 0x00]

/-- The fields READ_CHANNEL reports of a channel (spec/09 R183). -/
def Channel.reply (r : Channel) : List Byte :=
  [statusOk, r.state.code, r.state.tileCode] ++ bytesBE 3 r.cursor
    ++ [byteOf r.skip.length, byteOf r.inFlight.length, flagBit 0 r.paused]

/-- The reply of READ_CHANNEL (spec/09 R183). -/
def State.channelReply (s : State) (number : Byte) : List Byte :=
  if number = 0 then s.chan0.reply
  else if number = 1 then s.chan1.reply
  else statusRange :: List.replicate 8 0x00

/-- An optional number in n bytes: 0x00 where it is absent (spec/09 R184). -/
def optBytes (n : Nat) : Option Nat → List Byte
  | none => List.replicate n 0x00
  | some v => bytesBE n v

/-- The bytes of a record from the sequence number on (spec/09 R184, R195). -/
def NoticeRecord.reply (r : NoticeRecord) : List Byte :=
  bytesBE 2 r.seq.toNat ++ [byteOf r.notice.kind.code, r.notice.presentFlags]
    ++ optBytes 1 (r.notice.tile.map fun t => t.val)
    ++ optBytes 5 (r.notice.addr.map fun a => a.toNat)
    ++ optBytes 1 (r.notice.hostTag.map fun t => t.val)
    ++ optBytes 1 (r.notice.chan.map fun c => (chanByte c).toNat)
    ++ optBytes 1 (r.notice.kept.map fun k => k.1.toNat)
    ++ optBytes 2 (r.notice.kept.map fun k => k.2.toNat)

/-- The reply of TAKE_NOTICE: the presence byte, the lost count, and the oldest record or 0x00
throughout (spec/09 R184, spec/08 R168, R169). -/
def NoticeQueue.takeReply (q : NoticeQueue) : List Byte :=
  match q.records with
  | [] => [0x00] ++ bytesBE 2 q.lost ++ List.replicate 15 0x00
  | r :: _ => [0x01] ++ bytesBE 2 q.lost ++ r.reply

/-- The Notice Queue after TAKE_NOTICE: the oldest record is gone, the lost count is 0, and ATTN_N
is released where the queue is empty (spec/08 R168, R169, R170). -/
def NoticeQueue.taken (q : NoticeQueue) : NoticeQueue :=
  match q.records with
  | [] => { q with lost := 0 }
  | _ :: rest => { q with records := rest, lost := 0, attnLow := q.attnLow && !rest.isEmpty }

/-! ### Immediate commands -/

/-- STATUS (spec/09 R181). -/
def execStatus (s : State) : Host.Outcome State Fault Refusal :=
  .next (s.takeCommand Instr.status.takenByte s s.statusReply)

/-- RESULT (spec/09 R189). -/
def execResult (s : State) : Host.Outcome State Fault Refusal :=
  .next (s.takeCommand Instr.result.takenByte s s.port.result.reply)

/-- GET (spec/09 R192). -/
def execGet (ident : Byte) (s : State) : Host.Outcome State Fault Refusal :=
  .next (s.takeCommand (Instr.get ident).takenByte s (s.settings.getReply ident))

/-- The reply status of a SET and the settings it leaves: the checks of R193 in order. -/
def State.trySet (s : State) (ident : Byte) (value : BitVec 64) : Byte × Settings :=
  match settingOf ident with
  | none => (statusRange, s.settings)
  | some id =>
    if id.bypassOnly ∧ s.control.mode ≠ .bypass then (statusMode, s.settings)
    else
      match s.settings.put id value with
      | none => (statusRange, s.settings)
      | some g => (statusOk, g)

/-- SET (spec/09 R193), taken at the end of frame byte 9. -/
def execSet (ident : Byte) (value : BitVec 64) (s : State) : Host.Outcome State Fault Refusal :=
  .next
    (s.takeCommand (Instr.set ident value).takenByte
      { s with settings := (s.trySet ident value).2 } [(s.trySet ident value).1])

/-- READ_TILE (spec/09 R182). -/
def execReadTile (index : Byte) (s : State) : Host.Outcome State Fault Refusal :=
  .next (s.takeCommand (Instr.readTile index).takenByte s (s.tileReply index))

/-- READ_CHANNEL (spec/09 R183). -/
def execReadChannel (number : Byte) (s : State) : Host.Outcome State Fault Refusal :=
  .next (s.takeCommand (Instr.readChannel number).takenByte s (s.channelReply number))

/-- TAKE_NOTICE (spec/08 R168, R169, spec/09 R184). -/
def execTakeNotice (s : State) : Host.Outcome State Fault Refusal :=
  .next (s.takeCommand Instr.takeNotice.takenByte { s with notices := s.notices.taken } s.notices.takeReply)

end Sys2Proof.Machine
end

