-- ==== Sys2Proof/Machine/LongCommands.lean ====
section
/-! DEFINITION. The long commands and their walks: acceptance and refusal, the claims of the ENGAGE,
DISCARD, PREPARE and ADOPT walks, and the ends of DISENGAGE and RESTART. -/

namespace Sys2Proof.Machine

/-! ### Taking a long command (spec/09 R175, R178, R185) -/

/-- A long command is answered BUSY: another one runs, and it is not RESTART while an ADOPT is held
in HALTED (spec/09 R178, spec/05 R123). -/
def State.busyFor (s : State) (c : LongCmd) : Bool :=
  match s.port.running with
  | none => false
  | some r => !(c = .restart && r = .adopt && s.ret.state = .halted)

/-- The result record of a command just refused (spec/09 R185). -/
def refusedRecord (c : LongCmd) (why : Reason) : ResultRecord :=
  { command := some c, outcome := .refused why, changed := 0, unchanged := 0 }

/-- The result record of a command just accepted (spec/09 R185). -/
def runningRecord (c : LongCmd) : ResultRecord :=
  { command := some c, outcome := .running, changed := 0, unchanged := 0 }

/-- The command becomes the running one, with its result record; a walk of the command it replaces
ends with its remaining claims unmade (spec/09 R185, R187). -/
def State.begin (s : State) (c : LongCmd) : State :=
  { s with port := { s.port with running := some c, result := runningRecord c,
                                 rangeWalk := none } }

/-- The reply of a long command: outcome and reason as the event left them (spec/09 R185). -/
def State.longReply (s : State) : List Byte :=
  [s.port.result.outcome.code, s.port.result.outcome.reasonCode]

/-- A long command in its frame, taken at the end of byte t: BUSY, or refused with a reason, or
accepted (spec/09 R175, R185). `why` is the judgement of its conditions, and `accepted` what its
acceptance leaves. -/
def State.takeLong (s : State) (c : LongCmd) (t : Nat) (why : Option Reason) (accepted : State) :
    State :=
  if s.frameOpen then
    if s.busyFor c then s.setFrame (some (Frame.ignored busyByte))
    else
      let after := match why with
        | some r => { s with port := { s.port with result := refusedRecord c r } }
        | none => accepted
      s.takeCommand t after after.longReply
  else s

/-- The first failing check among conditions given in order. -/
def firstFailure : List (Bool × Reason) → Option Reason
  | [] => none
  | (holds, why) :: rest => if holds then firstFailure rest else some why

/-- The mode is m. -/
def State.modeIs (s : State) (m : Mode) : Bool := s.control.mode = m

/-- The retention state is ACTIVE. -/
def State.retActive (s : State) : Bool := s.ret.state = .active

/-- first ≤ last ≤ 127 (spec/05 R109). -/
def rangeOk (first last : Byte) : Bool := first.toNat ≤ last.toNat && last.toNat ≤ 127

/-! ### ENGAGE (spec/10 R199 to R201) -/

/-- The checks of ENGAGE in order (spec/10 R199). -/
def State.judgeEngage (s : State) (option : Byte) : Option Reason :=
  firstFailure [(s.modeIs .bypass, .mode), (s.retActive, .state),
    ((engageOption option).isSome, .range)]

/-- The acceptance of ENGAGE (spec/10 R199): mode ENGAGING, the option recorded, the walk at tile 0,
dispatch suspended. -/
def State.acceptEngage (s : State) (option : Byte) : State :=
  match engageOption option with
  | none => s
  | some o =>
    { (s.begin .engage).dropHead with
      control := { mode := .engaging, walk := some { pos := 0, option := o } } }

/-- ENGAGE (spec/10 R199, spec/09 R178, R185). -/
def execEngage (option : Byte) (s : State) : Host.Outcome State Fault Refusal :=
  .next
    (s.takeLong .engage (Instr.engage option).takenByte (s.judgeEngage option)
      (s.acceptEngage option))

/-- The state the ENGAGE walk leaves a tile in (spec/01 R16). -/
def EngageOption.tileState : EngageOption → TileState
  | .assumeLive => .live
  | .assumeVoid => .void

/-- The result record with one more changed tile. -/
def ResultRecord.countChanged (r : ResultRecord) : ResultRecord :=
  { r with changed := r.changed + 1 }

/-- The result record with one more unchanged tile. -/
def ResultRecord.countUnchanged (r : ResultRecord) : ResultRecord :=
  { r with unchanged := r.unchanged + 1 }

/-- The claim of the ENGAGE walk: the tile takes its state and the changed count rises
(spec/10 R200). -/
def State.claimEngage (s : State) (w : EngageWalk) : State :=
  { s.setTile w.pos w.option.tileState with
    port := { s.port with result := s.port.result.countChanged } }

/-- The ENGAGE walk ends: mode ENGAGED, position and option absent, DONE; a drain that the mode held
up completes in the same event (spec/10 R201). -/
def State.endEngage (s : State) : State :=
  State.settleDrain
    { s with control := { mode := .engaged, walk := none }, port := s.port.finish }

/-- ENGAGE_WALK_CLAIM (spec/10 R200, R201, spec/01 R16): the claim on the tile at the walk position.
With no walk there is no claim; a record that is not UNTRACKED makes the claim change nothing
(spec/01 R7). -/
def execEngageWalkClaim (s : State) : Host.Outcome State Fault Refusal :=
  .next
    (match s.control.walk with
    | none => s
    | some w =>
      if s.tiles[w.pos] = .untracked then
        if w.pos.val = 127 then (s.claimEngage w).endEngage
        else
          { s.claimEngage w with
            control := { s.control with walk := some { w with pos := w.pos + 1 } } }
      else s)

/-! ### DISENGAGE (spec/10 R202, R203) -/

/-- The checks of DISENGAGE in order (spec/10 R202). -/
def State.judgeDisengage (s : State) : Option Reason :=
  firstFailure [(s.modeIs .engaged, .mode), (s.retActive, .state)]

/-- The first claim of DISENGAGE on a record: FILLING and QUEUED become VOID (spec/01 R17). -/
def TileState.released : TileState → TileState
  | .filling _ => .void
  | .queued => .void
  | .untracked => .untracked
  | .void => .void
  | .live => .live
  | .discarded => .discarded
  | .failed => .failed

/-- A FILLING channel cancels; an IDLE or CANCELLING one stays as it is (spec/03 R75). -/
def Channel.released (r : Channel) : Channel := if r.isFilling then r.cancelled else r

/-- The acceptance of DISENGAGE (spec/10 R202): mode DISENGAGING, dispatch suspended, the first
claim taken with the channels cancelled and the Fill Queue emptied; the end follows at once where
both channels are IDLE. -/
def State.acceptDisengage (s : State) : State :=
  let s1 := { (s.begin .disengage).dropHead with
    control := { s.control with mode := .disengaging },
    tiles := Vector.ofFn fun t : Tile => (s.tiles[t]).released,
    fillQueue := [] }
  ((s1.setChan .ch0 s1.chan0.released).setChan .ch1 s1.chan1.released).settleDisengage

/-- DISENGAGE (spec/10 R202, spec/09 R178, R185). -/
def execDisengage (s : State) : Host.Outcome State Fault Refusal :=
  .next (s.takeLong .disengage Instr.disengage.takenByte s.judgeDisengage s.acceptDisengage)

/-- DISENGAGE_END (spec/10 R203): taken where both channels are IDLE in DISENGAGING. Before that the
command goes on, and nothing happens. -/
def execDisengageEnd (s : State) : Host.Outcome State Fault Refusal := .next s.settleDisengage

/-! ### RESTART (spec/10 R204 to R206) -/

/-- The one check of RESTART (spec/10 R204). -/
def State.judgeRestart (s : State) : Option Reason :=
  firstFailure [(s.retActive || s.ret.state = .halted, .state)]

/-- The acceptance of RESTART (spec/10 R204): mode RESTARTING, a held ADOPT ends, dispatch is
suspended, both channels stop, and the Request Queue is flushed ABORTED; the clear follows at once
where no tag is IN_USE. -/
def State.acceptRestart (s : State) : State :=
  let s1 := { s.begin .restart with control := { mode := .restarting, walk := none } }
  (s1.flush .aborted).examineChans.settleRestart

/-- RESTART (spec/10 R204, spec/09 R178, R185). -/
def execRestart (s : State) : Host.Outcome State Fault Refusal :=
  .next (s.takeLong .restart Instr.restart.takenByte s.judgeRestart s.acceptRestart)

/-- RESTART_CLEAR (spec/10 R206): taken where no tag is IN_USE in RESTARTING. Before that the
restart waits, and nothing happens. -/
def execRestartClear (s : State) : Host.Outcome State Fault Refusal := .next s.settleRestart

/-! ### Range commands (spec/05 R109, R110) -/

/-- The checks of DISCARD and PREPARE in order (spec/05 R109). -/
def State.judgeRange (s : State) (first last : Byte) : Option Reason :=
  firstFailure [(s.modeIs .engaged, .mode), (rangeOk first last, .range)]

/-- The checks of ADOPT in order (spec/05 R109). -/
def State.judgeAdopt (s : State) (first last : Byte) : Option Reason :=
  firstFailure [(s.modeIs .engaged, .mode), (s.retActive, .state), (rangeOk first last, .range)]

/-- The acceptance of a range command: its walk is positioned at the first tile (spec/05 R110). -/
def State.acceptRange (s : State) (c : LongCmd) (first last : Byte) : State :=
  let s' := s.begin c
  { s' with port := { s'.port with
      rangeWalk := some { next := Fin.ofNat 128 first.toNat, last := Fin.ofNat 128 last.toNat } } }

/-- DISCARD (spec/05 R109, R110, spec/09 R178, R185). -/
def execDiscard (first last : Byte) (s : State) : Host.Outcome State Fault Refusal :=
  .next
    (s.takeLong .discard (Instr.discard first last).takenByte (s.judgeRange first last)
      (s.acceptRange .discard first last))

/-- PREPARE (spec/05 R109, R110, spec/09 R178, R185). -/
def execPrepare (first last : Byte) (s : State) : Host.Outcome State Fault Refusal :=
  .next
    (s.takeLong .prepare (Instr.prepare first last).takenByte (s.judgeRange first last)
      (s.acceptRange .prepare first last))

/-- ADOPT (spec/05 R109, R110, spec/09 R178, R185). -/
def execAdopt (first last : Byte) (s : State) : Host.Outcome State Fault Refusal :=
  .next
    (s.takeLong .adopt (Instr.adopt first last).takenByte (s.judgeAdopt first last)
      (s.acceptRange .adopt first last))

/-! ### The walks (spec/05 R111, R112) -/

/-- A claim was counted and the walk goes on to the next tile, or is DONE after the last
(spec/05 R111, R112). -/
def MgmtPort.advance (p : MgmtPort) (w : RangeWalk) (changed : Bool) : MgmtPort :=
  let r := if changed then p.result.countChanged else p.result.countUnchanged
  if w.next = w.last then { p with result := r }.finish
  else { p with result := r, rangeWalk := some { w with next := w.next + 1 } }

/-- The walk has taken its claim on its next tile, which changed the tile or not. -/
def State.advanceWalk (s : State) (w : RangeWalk) (changed : Bool) : State :=
  { s with port := s.port.advance w changed }

/-- A discard claim acts by the state it finds (spec/01 R13). -/
def State.discardTile (s : State) (t : Tile) : State × Bool :=
  match s.tiles[t] with
  | .live => (s.setTile t .discarded, true)
  | .queued => ({ s.setTile t .void with fillQueue := s.fillQueue.erase t }, true)
  | .filling c => ((s.setTile t .void).cancel c, true)
  | .failed => (s.setTile t .void, true)
  | .void => (s, false)
  | .discarded => (s, false)
  | .untracked => (s, false)

/-- A prepare claim finding VOID queues the tile at the tail (spec/01 R14, spec/05 R119). -/
def State.prepareTile (s : State) (t : Tile) : State × Bool :=
  match s.tiles[t] with
  | .void => ({ s.setTile t .queued with fillQueue := s.fillQueue ++ [t] }, true)
  | .queued => (s, false)
  | .filling _ => (s, false)
  | .live => (s, false)
  | .discarded => (s, false)
  | .failed => (s, false)
  | .untracked => (s, false)

/-- An adopt claim acts by the state it finds (spec/01 R14, spec/05 R121). -/
def State.adoptTile (s : State) (t : Tile) : State × Bool :=
  match s.tiles[t] with
  | .void => (s.setTile t .live, true)
  | .discarded => (s.setTile t .live, true)
  | .queued => ({ s.setTile t .live with fillQueue := s.fillQueue.erase t }, true)
  | .filling _ => (s, false)
  | .failed => (s, false)
  | .live => (s, false)
  | .untracked => (s, false)

/-- The walk of a command, while that command runs. -/
def State.walkOf (s : State) (c : LongCmd) : Option RangeWalk :=
  if s.port.running = some c then s.port.rangeWalk else none

/-- DISCARD_CLAIM (spec/01 R13, spec/05 R111 to R118): the DISCARD walk's next claim. With no
DISCARD running there is no claim, and nothing happens. -/
def execDiscardClaim (s : State) : Host.Outcome State Fault Refusal :=
  .next
    (match s.walkOf .discard with
    | none => s
    | some w => (s.discardTile w.next).1.advanceWalk w (s.discardTile w.next).2)

/-- PREPARE_CLAIM (spec/05 R119, R120): the PREPARE walk's next claim. It comes after a take that is
due (R119; notes/assumptions/26.md): until that take there is no claim, and nothing happens. The same
where no PREPARE runs. -/
def execPrepareClaim (s : State) : Host.Outcome State Fault Refusal :=
  .next
    (match s.walkOf .prepare with
    | none => s
    | some w =>
      if s.takeDue then s
      else (s.prepareTile w.next).1.advanceWalk w (s.prepareTile w.next).2)

/-- ADOPT_CLAIM (spec/05 R121, spec/04 R105): the ADOPT walk's next claim, made in ACTIVE and
DRAINING only; in the other retention states the claim is held, and nothing happens. With no ADOPT
running there is no claim. -/
def execAdoptClaim (s : State) : Host.Outcome State Fault Refusal :=
  .next
    (match s.walkOf .adopt with
    | none => s
    | some w =>
      if s.adoptHeld then s
      else (s.adoptTile w.next).1.advanceWalk w (s.adoptTile w.next).2)

end Sys2Proof.Machine
end

