-- ==== Sys2Proof/Machine/MemoryLink.lean ====
section
/-! DEFINITION. The commands of the memory link: MEMORY_LINK_UP, CREDIT, RESPONSE and the two
response deadlines. -/

namespace Sys2Proof.Machine

/-- A notice about a downstream request: its address, with its host tag or its channel by the origin
of its entry (spec/08 R163). -/
def originNotice (k : NoticeKind) : Origin → Notice
  | .host _ addr t _ => { kind := k, addr := some addr, hostTag := some t }
  | .fill addr c _ => { kind := k, addr := some addr, chan := some c }

/-- The status a host request is answered with for a memory status (spec/06 R137). -/
def hostStatusOf : MemStatus → HostStatus
  | .ok => .okay
  | .error => .error

/-- The data a host request is answered with: the beats as received, for a READ answered OK only
(spec/06 R127, R137). -/
def hostDataOf : Kind → MemStatus → Burst → Option Burst
  | .read, .ok, data => some data
  | .read, .error, _ => none
  | .write, .ok, _ => none
  | .write, .error, _ => none

/-- The response is an OK. -/
def MemStatus.isOk (st : MemStatus) : Bool := st = .ok

/-- A response is handled by the status of the entry its tag names: the entry becomes FREE and the
response is routed to the host or to a channel, or is late; a FREE entry makes it a stray
(spec/06 R136, R137, R138, R141). -/
def State.takeResponse (s : State) (t : Tag) (st : MemStatus) (data : Burst) : State :=
  match s.tags[t] with
  | .free => s.post { kind := .strayResponse }
  | .quarantined o => (s.setTag t .free).post (originNotice .lateResponse o)
  | .inUse (.host k _ ht link) _ =>
    State.settleTag
      (((s.setTag t .free).respond ht (hostStatusOf st) (hostDataOf k st data)).handSkip
        link t (st = .ok))
  | .inUse (.fill _ c o) _ =>
    State.settleTag ((s.setTag t .free).handFill c o t (st = .ok))

/-- MEMORY_LINK_UP (spec/12 R213, spec/06 R146): one link-up per hard reset, after its end; the link
state becomes UP and the directives sent before it are carried in the order of sending. -/
def execMemoryLinkUp (s : State) : Host.Outcome State Fault Refusal :=
  .next
    (if s.pins.inReset ∨ s.link.up then s
    else { s with link := { s.link with up := true, sent := s.link.sent ++ s.link.held,
                                        held := [] } })

/-- CREDIT(n) (spec/06 R128): the counter rises by n and saturates at 255. No inbound message is
taken before link-up (R213). -/
def execCredit (n : Fin 256) (s : State) : Host.Outcome State Fault Refusal :=
  .next
    (if s.link.up then
      { s with link := { s.link with
          credits := min Config.linkCreditBound (s.link.credits + n.val) } }
    else s)

/-- RESPONSE (spec/06 R136): a tag 48 to 63 names no entry and makes the response a stray. -/
def execResponse (tag : Fin 64) (st : MemStatus) (data : Burst) (s : State) :
    Host.Outcome State Fault Refusal :=
  .next
    (if s.link.up then
      if h : tag.val < 48 then s.takeResponse ⟨tag.val, h⟩ st data
      else s.post { kind := .strayResponse }
    else s)

/-- RESPONSE_TIMEOUT (spec/06 R139): the deadline of an IN_USE host-origin entry passes, once no
deadline that runs lies before it (spec/12 R213). On any other entry no such deadline runs, and
nothing happens. -/
def execResponseTimeout (tag : Tag) (s : State) : Host.Outcome State Fault Refusal :=
  .next
    (match s.tags[tag] with
    | .inUse (.host k addr ht link) deadline =>
      if s.noneBefore deadline then
        State.settleTag
          (((((s.reach deadline).setTag tag (.quarantined (.host k addr ht link))).post
              (originNotice .responseTimeout (.host k addr ht link))).respond
            ht .timeout none).handSkip link tag false)
      else s
    | .inUse (.fill _ _ _) _ => s
    | .free => s
    | .quarantined _ => s)

/-- FILL_WRITE_TIMEOUT (spec/06 R140): the deadline of an IN_USE fill-origin entry passes, once no
deadline that runs lies before it (spec/12 R213), and its channel treats it as an ERROR. On any other
entry no such deadline runs, and nothing happens. -/
def execFillWriteTimeout (tag : Tag) (s : State) : Host.Outcome State Fault Refusal :=
  .next
    (match s.tags[tag] with
    | .inUse (.fill addr c o) deadline =>
      if s.noneBefore deadline then
        State.settleTag
          ((((s.reach deadline).setTag tag (.quarantined (.fill addr c o))).post
              (originNotice .responseTimeout (.fill addr c o))).handFill c o tag false)
      else s
    | .inUse (.host _ _ _ _) _ => s
    | .free => s
    | .quarantined _ => s)

end Sys2Proof.Machine
end

