-- ==== Sys2Proof/Machine/Reset.lean ====
section
/-! DEFINITION. Hard reset: RST_N low, and its rise. -/

namespace Sys2Proof.Machine

/-- The state while RST_N is low: every block at its hard-reset value, both ready lines deasserted
(spec/12 R213, spec/10 R209). The levels of SLP_REQ and chip-select are the outside's and stay, as
do the clock, the waiting commands, and the record of the messages that have left. -/
def State.hardReset (s : State) : State :=
  { State.reset with
    pins := { s.pins with inReset := true, hostReady := false, memReady := false },
    now := s.now,
    host := { HostLink.reset with sent := s.host.sent },
    link := { MemLink.reset with sent := s.link.sent },
    pending := s.pending }

/-- HARD_RESET (spec/10 R209, and the hard-reset value of each block). -/
def execHardReset (s : State) : Host.Outcome State Fault Refusal := .next s.hardReset

/-- HARD_RESET_END (spec/12 R213, spec/04 R84, R108): the ready lines are asserted and SLP_REQ is
sampled, which starts a drain if it is high. With RST_N high already it does not rise. -/
def execHardResetEnd (s : State) : Host.Outcome State Fault Refusal :=
  .next
    (if s.pins.inReset then
      State.startDrain
        { s with pins := { s.pins with inReset := false, hostReady := true, memReady := true } }
    else s)

end Sys2Proof.Machine
end

