-- ==== Sys2Proof/Machine/RetentionEvents.lean ====
section
/-! DEFINITION. The commands of the Retention Controller: the done messages, the directive
deadlines, the changes of SLP_REQ and drain completion. -/

namespace Sys2Proof.Machine

/-- A done message that does not match the retention state is ignored, with notice STRAY_DIRECTIVE
(spec/04 R101). -/
def State.strayDirective (s : State) : State := s.post { kind := .strayDirective }

/-- A done message taken at the Retention Controller: it finds the drain completed where its completion
is due, because that is the next event there (spec/04 R86; notes/assumptions/28.md); then it is
matched in one retention state, and a stray in the others (R101). No inbound message is taken before
link-up (spec/12 R213). -/
def State.takeDone (s : State) (wanted : RetState) (matched : State → State) : State :=
  if s.link.up then
    let s' := s.settleDrain
    if s'.ret.state = wanted then matched s' else s'.strayDirective
  else s

/-- ENTER_DONE matched in ENTERING (spec/04 R92): the deadline and pending-wake are cleared and
RETAIN_ENTERED is raised; then RETAINED, or the exit at once. -/
def State.entered (s : State) : State :=
  let s' := { s with ret := { s.ret with deadline := none, pendingWake := false } }.post
    { kind := .retainEntered, kept := some (s.ret.keptLanes, s.ret.keptBands) }
  if s.pins.slpReqHigh ∧ s.ret.pendingWake = false then
    { s' with ret := { s'.ret with state := .retained, slpAck := true } }
  else s'.needRelease.sendExit 1

/-- ENTER_DONE (spec/04 R86, R92, R101). -/
def execEnterDone (s : State) : Host.Outcome State Fault Refusal :=
  .next (s.takeDone .entering State.entered)

/-- Exit completion (spec/04 R98): the deadline is cleared, the attempt count returns to 0, SLP_ACK
falls, RETAIN_EXITED is raised, the pause flags clear and the state is ACTIVE; where a new drain is
due it starts in this event. -/
def State.exited (s : State) : State :=
  State.startDrain
    (({ s with ret := { s.ret with state := .active, exitAttempts := 0, deadline := none,
                                   slpAck := false } }.post { kind := .retainExited }).setPaused
      false)

/-- EXIT_DONE (spec/04 R86, R98, R101). -/
def execExitDone (s : State) : Host.Outcome State Fault Refusal :=
  .next (s.takeDone .exiting State.exited)

/-- The directive deadline passes: the clock stands at it (spec/12 R213). -/
def State.reachDirective (s : State) : State :=
  match s.ret.deadline with
  | none => s
  | some d => s.reach d

/-- ENTRY_TIMEOUT (spec/04 R93): the directive deadline passes in ENTERING, once no deadline that runs
lies before it (spec/12 R213). In any other state no entry deadline runs, and nothing happens. -/
def execEntryTimeout (s : State) : Host.Outcome State Fault Refusal :=
  .next
    (if s.ret.state = .entering ∧ s.passesFirst s.ret.deadline then
      let s' := s.reachDirective.post { kind := .entryTimeout }
      { s' with ret := { s'.ret with pendingWake := false } }.needRelease.sendExit 1
    else s)

/-- EXIT_TIMEOUT (spec/04 R99): the directive deadline passes in EXITING at attempt 1, once no
deadline that runs lies before it (spec/12 R213), and RETAIN_EXIT is sent again. Elsewhere no such deadline runs, and nothing happens. -/
def execExitTimeout (s : State) : Host.Outcome State Fault Refusal :=
  .next
    (if s.ret.state = .exiting ∧ s.ret.exitAttempts = 1 ∧ s.passesFirst s.ret.deadline then
      (s.reachDirective.post { kind := .exitTimeout }).sendExit 2
    else s)

/-- The part halts (spec/04 R100): EXIT_TIMEOUT, then HALTED; the deadline is cleared, SLP_ACK falls
and the Request Queue is flushed REFUSED. -/
def State.halted (s : State) : State :=
  let s' := (s.post { kind := .exitTimeout }).post { kind := .halted }
  { s' with ret := { s'.ret with state := .halted, deadline := none, slpAck := false } }.flush
    .refused

/-- HALT (spec/04 R100): the directive deadline passes in EXITING at attempt 2, once no deadline that
runs lies before it (spec/12 R213). Elsewhere no such deadline runs, and nothing happens. -/
def execHalt (s : State) : Host.Outcome State Fault Refusal :=
  .next
    (if s.ret.state = .exiting ∧ s.ret.exitAttempts = 2 ∧ s.passesFirst s.ret.deadline then
      s.reachDirective.halted
    else s)

/-- SLP_REQ_RISE (spec/04 R84): the level is noted, and a drain starts where one is due. With
SLP_REQ high already it does not rise. -/
def execSlpReqRise (s : State) : Host.Outcome State Fault Refusal :=
  .next
    (if s.pins.slpReqHigh then s
    else State.startDrain { s with pins := { s.pins with slpReqHigh := true } })

/-- The fall of SLP_REQ at the Retention Controller: release-needed is cleared; a drain is aborted,
a retained period ends, and in the other states the level is noted (spec/04 R82, R88, R95). -/
def State.slpFell (s : State) : State :=
  let s' := { s with pins := { s.pins with slpReqHigh := false },
                     ret := { s.ret with releaseNeeded := false } }
  match s.ret.state with
  | .draining => { s' with ret := { s'.ret with state := .active } }.setPaused false
  | .retained => s'.sendExit 1
  | .active => s'
  | .entering => s'
  | .exiting => s'
  | .halted => s'

/-- SLP_REQ_FALL (spec/04 R82, R88, R95). With SLP_REQ low already it does not fall. -/
def execSlpReqFall (s : State) : Host.Outcome State Fault Refusal :=
  .next (if s.pins.slpReqHigh then s.slpFell else s)

/-- DRAIN_COMPLETION (spec/04 R86, R90): taken as an event of its own where both conditions held
when the drain started, and then the next one at the Retention Controller but for a fall of SLP_REQ.
Where they do not hold, the drain goes on and nothing happens. -/
def execDrainCompletion (s : State) : Host.Outcome State Fault Refusal := .next s.settleDrain

end Sys2Proof.Machine
end

