-- ==== Sys2Proof/Machine/Dispatch.lean ====
section
/-! DEFINITION. The meaning of every command: one arm per constructor of Instr, each one direct call
of that command's own definition. -/

namespace Sys2Proof.Machine

def exec (i : Instr) (s : State) : Host.Outcome State Fault Refusal :=
  match i with
  | .request r => Sys2Proof.Machine.execRequest r s
  | .hostLinkUp => Sys2Proof.Machine.execHostLinkUp s
  | .memoryLinkUp => Sys2Proof.Machine.execMemoryLinkUp s
  | .response tag st data => Sys2Proof.Machine.execResponse tag st data s
  | .credit n => Sys2Proof.Machine.execCredit n s
  | .enterDone => Sys2Proof.Machine.execEnterDone s
  | .exitDone => Sys2Proof.Machine.execExitDone s
  | .responseTimeout tag => Sys2Proof.Machine.execResponseTimeout tag s
  | .fillWriteTimeout tag => Sys2Proof.Machine.execFillWriteTimeout tag s
  | .entryTimeout => Sys2Proof.Machine.execEntryTimeout s
  | .exitTimeout => Sys2Proof.Machine.execExitTimeout s
  | .halt => Sys2Proof.Machine.execHalt s
  | .slpReqRise => Sys2Proof.Machine.execSlpReqRise s
  | .slpReqFall => Sys2Proof.Machine.execSlpReqFall s
  | .drainCompletion => Sys2Proof.Machine.execDrainCompletion s
  | .hardReset => Sys2Proof.Machine.execHardReset s
  | .hardResetEnd => Sys2Proof.Machine.execHardResetEnd s
  | .headClassification => Sys2Proof.Machine.execHeadClassification s
  | .fillStart => Sys2Proof.Machine.execFillStart s
  | .queueAtHead => Sys2Proof.Machine.execQueueAtHead s
  | .promotion => Sys2Proof.Machine.execPromotion s
  | .headGrant => Sys2Proof.Machine.execHeadGrant s
  | .channelGrant c => Sys2Proof.Machine.execChannelGrant c s
  | .take c => Sys2Proof.Machine.execTake c s
  | .cursorStep c => Sys2Proof.Machine.execCursorStep c s
  | .status => Sys2Proof.Machine.execStatus s
  | .result => Sys2Proof.Machine.execResult s
  | .get ident => Sys2Proof.Machine.execGet ident s
  | .set ident value => Sys2Proof.Machine.execSet ident value s
  | .readTile index => Sys2Proof.Machine.execReadTile index s
  | .readChannel number => Sys2Proof.Machine.execReadChannel number s
  | .takeNotice => Sys2Proof.Machine.execTakeNotice s
  | .unknownCommand code => Sys2Proof.Machine.execUnknownCommand code s
  | .frameAbandon => Sys2Proof.Machine.execFrameAbandon s
  | .engage option => Sys2Proof.Machine.execEngage option s
  | .engageWalkClaim => Sys2Proof.Machine.execEngageWalkClaim s
  | .disengage => Sys2Proof.Machine.execDisengage s
  | .disengageEnd => Sys2Proof.Machine.execDisengageEnd s
  | .restart => Sys2Proof.Machine.execRestart s
  | .restartClear => Sys2Proof.Machine.execRestartClear s
  | .discard first last => Sys2Proof.Machine.execDiscard first last s
  | .discardClaim => Sys2Proof.Machine.execDiscardClaim s
  | .prepare first last => Sys2Proof.Machine.execPrepare first last s
  | .prepareClaim => Sys2Proof.Machine.execPrepareClaim s
  | .adopt first last => Sys2Proof.Machine.execAdopt first last s
  | .adoptClaim => Sys2Proof.Machine.execAdoptClaim s
  | .frameBegin => Sys2Proof.Machine.execFrameBegin s
  | .frameEnd => Sys2Proof.Machine.execFrameEnd s

end Sys2Proof.Machine
end

