-- ==== Sys2Proof/Machine/Step.lean ====
section
/-! DEFINITION. One step of the machine: the command at the front of the queue, or, with no command
waiting, the completion of a drain that is due, a deadline that falls now, or one microsecond of
REFCLK. -/

namespace Sys2Proof.Machine

/-- One step: the command at the front of the queue acts on the state with the queue's rest. With no
command waiting, a drain whose conditions hold completes (spec/04 R86; notes/assumptions/28.md), or a
deadline that falls at the clock's instant passes, and where neither is due REFCLK counts one
microsecond (spec/12 R213). DESIGN CHOICE (notes/assumptions/3.md, 4.md). -/
def step (s : State) : Host.Outcome State Fault Refusal :=
  match s.pending with
  | [] =>
    match s.dueCommand with
    | some c => exec c s
    | none => .next s.tick
  | c :: rest => exec c { s with pending := rest }

/-- The state with the command that a word spells put at the front of its queue; unchanged where the
word spells none. -/
def State.withFetchWord (s : State) (nbits w : Nat) : State :=
  match decodeTableWord nbits w with
  | none => s
  | some c => { s with pending := c :: s.pending }

end Sys2Proof.Machine
end

