-- ==== Sys2Proof/Safety.lean ====
section
/-! DEFINITION. What a safe state of the 2160 is: the laws that spec/ says hold at every point, each
as a predicate on one state. -/

namespace Sys2Proof.Machine

/-! ### The host link (spec/07) -/

/-- The credit law: balance, queued requests and credits owed total 16 from link-up on, and are all
0 before it; between events nothing is owed (spec/07 R156, R157). -/
def State.CreditLaw (s : State) : Prop :=
  s.host.owed = 0 ∧
  (s.host.up = true → s.host.balance + s.requests.length + s.host.owed = 16) ∧
  (s.host.up = false → s.host.balance = 0 ∧ s.requests = [])

/-- Downstream tag t is IN_USE for host tag h. -/
def State.issuedFor (s : State) (t : Tag) (h : HostTag) : Prop :=
  ∃ k a l d, s.tags[t] = .inUse (.host k a h l) d

/-- The host-tag law: the outstanding set is exactly the tags of the queued requests and of the
IN_USE host-origin entries, and no tag is held twice (spec/07 R155, spec/06 R131, spec/02 R22). -/
def State.HostTagLaw (s : State) : Prop :=
  (∀ h, hasTag s.host.outstanding h = true ↔
    (h ∈ s.requests.map HostRequest.tag ∨ ∃ t, s.issuedFor t h)) ∧
  (s.requests.map HostRequest.tag).Nodup ∧
  (∀ t h, s.issuedFor t h → h ∉ s.requests.map HostRequest.tag) ∧
  (∀ t t' h, s.issuedFor t h → s.issuedFor t' h → t = t')

/-! ### Notices (spec/08) -/

/-- The notice law: at most 32 records, the lost count at most 65,535 and nonzero only with a record
stored, and ATTN_N low exactly while a record is stored (spec/08 R165, R166, R170). -/
def State.NoticeLaw (s : State) : Prop :=
  s.notices.records.length ≤ 32 ∧
  s.notices.lost ≤ 65535 ∧
  (s.notices.lost ≠ 0 → s.notices.records ≠ []) ∧
  (s.notices.attnLow = true ↔ s.notices.records ≠ [])

/-- A REQUEST of the memory link. -/
def MemMsg.isRequest : MemMsg → Bool
  | .request _ _ _ => true
  | .retainEnter _ _ => false
  | .retainExit => false

/-! ### Settings and the arbiter (spec/09 R190, spec/06 R128, R134) -/

/-- Every setting lies in its range (spec/09 R190); the settings not named have no value outside
theirs. -/
def Settings.InRange (g : Settings) : Prop :=
  1 ≤ g.fillShare ∧ g.fillShare ≤ 15 ∧ 16 ≤ g.respTimeout ∧ g.respTimeout ≤ 4096 ∧
  1 ≤ g.directiveTimeout ∧ g.directiveTimeout ≤ 64

/-- The settings are in range, the link credit counter is at most 255 and 0 before link-up, the
fill-pass count is at most 15, and what waits for link-up is directives (spec/09 R190, spec/06 R128,
R134, R146). -/
def State.LinkLaw (s : State) : Prop :=
  s.settings.InRange ∧ s.link.credits ≤ 255 ∧ (s.link.up = false → s.link.credits = 0) ∧
  s.link.fillPass ≤ 15 ∧ ∀ m ∈ s.link.held, m.isRequest = false

/-! ### The clock (spec/12 R213) -/

/-- No running deadline, of a response or of a directive, lies before the instant d. -/
def State.NoDeadlineBefore (s : State) (d : Micros) : Prop :=
  (∀ (t : Tag) o e, s.tags[t] = .inUse o e → d ≤ e) ∧ ∀ e, s.ret.deadline = some e → d ≤ e

/-- The clock has run past no deadline: each passes at its instant (spec/12 R213). -/
def State.ClockLaw (s : State) : Prop := s.NoDeadlineBefore s.now

/-! ### Tiles and channels (spec/01, spec/03) -/

/-- The Fill Queue holds every QUEUED tile exactly once and no other tile (spec/03 R68). -/
def State.FillQueueLaw (s : State) : Prop :=
  s.fillQueue.Nodup ∧ ∀ t : Tile, t ∈ s.fillQueue ↔ s.tiles[t] = .queued

/-- A channel is FILLING on a tile exactly when the tile is FILLING naming that channel
(spec/03 R48). -/
def State.FillingLaw (s : State) : Prop :=
  ∀ (c : Chan) (t : Tile), (s.chan c).state = .filling t ↔ s.tiles[t] = .filling c

/-- A channel's lists are as its state has them (spec/03 R47, R50, R54): IDLE, cursor 0 and both
empty; CANCELLING, no skip entry and only ISSUED fill writes; FILLING, the skip list strictly
ascending from the cursor on and below the burst count, with at most 32 entries. In every state the
in-flight list is strictly ascending, below the cursor, and holds at most 4 entries. -/
def Channel.ListLaw (bursts : Nat) (r : Channel) : Prop :=
  r.inFlight.Pairwise (fun a b => a.offset < b.offset) ∧
  (∀ e ∈ r.inFlight, e.offset < r.cursor) ∧
  r.inFlight.length ≤ 4 ∧
  match r.state with
  | .idle => r.cursor = 0 ∧ r.skip = [] ∧ r.inFlight = []
  | .cancelling => r.skip = [] ∧ r.inFlight ≠ [] ∧ ∀ e ∈ r.inFlight, e.isIssued = true
  | .filling _ =>
    r.cursor ≤ bursts ∧ r.skip.Pairwise (fun a b => a.offset < b.offset) ∧ r.skip.length ≤ 32 ∧
    ∀ e ∈ r.skip, r.cursor ≤ e.offset ∧ e.offset < bursts

/-- Both channels' lists are as R50 and R54 have them. -/
def State.ListLaw (s : State) : Prop :=
  ∀ c, (s.chan c).ListLaw s.settings.burstCount

/-- A channel's request to the arbiter stands exactly when R57 has it stand (spec/03 R57). -/
def State.AskLaw (s : State) : Prop :=
  ∀ c, (s.chan c).asks = (s.chan c).wants s.control.mode s.settings.burstCount

/-! ### The mode (spec/01 R6, spec/10 R197) -/

/-- Both channels are IDLE and the Fill Queue is empty. -/
def State.Quiet (s : State) : Prop :=
  s.chan0.state = .idle ∧ s.chan1.state = .idle ∧ s.fillQueue = []

/-- What the mode says of the tiles, channels and walks (spec/01 R6, R16, R17, spec/10 R197). -/
def State.ModeLaw (s : State) : Prop :=
  (s.port.rangeWalk.isSome = true → s.control.mode = .engaged) ∧
  (s.control.walk.isSome = true ↔ s.control.mode = .engaging) ∧
  match s.control.mode with
  | .bypass => (∀ t : Tile, s.tiles[t] = .untracked) ∧ s.Quiet
  | .engaging =>
    s.Quiet ∧ ∀ w, s.control.walk = some w → ∀ t : Tile,
      (s.tiles[t] = .untracked ↔ w.pos ≤ t) ∧
      (t < w.pos → s.tiles[t] = w.option.tileState)
  | .engaged => ∀ t : Tile, s.tiles[t] ≠ .untracked
  | .disengaging =>
    s.fillQueue = [] ∧ ∀ t : Tile, s.tiles[t] ≠ .untracked ∧ s.tiles[t] ≠ .queued ∧
      ∀ c, s.tiles[t] ≠ .filling c
  | .restarting => True

/-- The tracking law: the Fill Queue, the channels, their lists and requests, and the mode agree
with the Tile Map (spec/01 R6, spec/03 R48, R50, R54, R57, R68). -/
def State.TrackingLaw (s : State) : Prop :=
  s.FillQueueLaw ∧ s.FillingLaw ∧ s.ListLaw ∧ s.AskLaw ∧ s.ModeLaw

/-! ### The Tag Pool against the lists (spec/06 R138, spec/03 R52) -/

/-- The fill writes that are IN_USE downstream are exactly the ISSUED in-flight entries, and every
ISSUED skip entry has its host write IN_USE downstream (spec/06 R138, spec/03 R50, R54). -/
def State.TagLaw (s : State) : Prop :=
  (∀ (c : Chan) (o : Nat) (t : Tag),
    (∃ a d, s.tags[t] = .inUse (.fill a c o) d) ↔
      ∃ e ∈ (s.chan c).inFlight, e.offset = o ∧ e.status = .issued t) ∧
  (∀ (c : Chan), ∀ e ∈ (s.chan c).skip, ∀ t, e.status = .issued t →
    ∃ k a h d, s.tags[t] = .inUse (.host k a h (some { chan := c, offset := e.offset })) d)

/-! ### Retention (spec/04) -/

/-- ENTERING, RETAINED or EXITING: the states in which the memory controller was told what to keep
(spec/04 R91). -/
def RetState.inPeriod : RetState → Bool
  | .entering => true
  | .retained => true
  | .exiting => true
  | .active => false
  | .draining => false
  | .halted => false

/-- The handshake law (spec/04 R80 to R84): SLP_ACK is high only in RETAINED, and in EXITING; in
RETAINED it is, and SLP_REQ is high; pending-wake is set only in ENTERING; release-needed only with
SLP_REQ high; a deadline runs exactly in ENTERING and EXITING; the attempt count is 1 or 2 in
EXITING, 2 in HALTED and 0 elsewhere; and no drain is due that has not started. -/
def State.HandshakeLaw (s : State) : Prop :=
  (s.ret.slpAck = true → s.ret.state = .retained ∨ s.ret.state = .exiting) ∧
  (s.ret.state = .retained → s.ret.slpAck = true ∧ s.pins.slpReqHigh = true) ∧
  (s.ret.pendingWake = true → s.ret.state = .entering) ∧
  (s.ret.releaseNeeded = true → s.pins.slpReqHigh = true) ∧
  (s.ret.deadline.isSome = true ↔ s.ret.state = .entering ∨ s.ret.state = .exiting) ∧
  (match s.ret.state with
    | .exiting => s.ret.exitAttempts = 1 ∨ s.ret.exitAttempts = 2
    | .halted => s.ret.exitAttempts = 2
    | .active => s.ret.exitAttempts = 0
    | .draining => s.ret.exitAttempts = 0
    | .entering => s.ret.exitAttempts = 0
    | .retained => s.ret.exitAttempts = 0) ∧
  s.drainDue = false

/-- The retention law (spec/04 R80, R91, R207): outside ACTIVE both channels are paused, and in
ACTIVE neither is; outside ACTIVE dispatch holds no classification; in a period and in HALTED no tag
is IN_USE; and in a period every LIVE or FILLING tile lies in the kept product, the mode being
BYPASS or ENGAGED. -/
def State.RetentionLaw (s : State) : Prop :=
  (∀ c, (s.chan c).paused = (s.ret.state != .active)) ∧
  (s.dispatchRuns = false → s.dispatch = { headClass := none, claim := none }) ∧
  (s.ret.state.inPeriod = true ∨ s.ret.state = .halted → s.noneInUse = true) ∧
  (s.ret.state.inPeriod = true →
    s.control.mode.settled = true ∧
    ∀ t : Tile, (s.tiles[t]).counts = true →
      keptTile s.ret.keptLanes s.ret.keptBands t = true)

/-! ### The management port (spec/09) -/

/-- The port law (spec/09 R186, R187): a long command runs exactly while the outcome is RUNNING, and
it is the record's command; the mode holds only while its command runs; a range walk belongs to a
running range command, lies ahead of its last tile, and its counts are the claims it has taken. -/
def State.PortLaw (s : State) : Prop :=
  (s.port.result.outcome = .running ↔ s.port.running.isSome = true) ∧
  (s.port.running.isSome = true → s.port.result.command = s.port.running) ∧
  (s.control.mode = .engaging ↔ s.port.running = some .engage) ∧
  (s.control.mode = .disengaging ↔ s.port.running = some .disengage) ∧
  (s.control.mode = .restarting ↔ s.port.running = some .restart) ∧
  (s.port.rangeWalk.isSome = true ↔
    s.port.running = some .discard ∨ s.port.running = some .prepare ∨
    s.port.running = some .adopt) ∧
  (∀ w, s.port.rangeWalk = some w → w.next ≤ w.last)

/-! ### Hard reset (spec/12 R213) -/

/-- While RST_N is low, every block holds its hard-reset value (spec/12 R213). -/
def State.ResetLaw (s : State) : Prop :=
  s.pins.inReset = true →
    s.tiles = noTiles ∧ s.requests = [] ∧ s.dispatch = { headClass := none, claim := none } ∧
    s.chan0 = Channel.reset ∧ s.chan1 = Channel.reset ∧ s.fillQueue = [] ∧
    s.host = { HostLink.reset with sent := s.host.sent } ∧
    s.link = { MemLink.reset with sent := s.link.sent } ∧
    s.tags = Vector.replicate 48 .free ∧ s.ret = Retention.reset ∧
    s.notices = NoticeQueue.reset ∧ s.port = MgmtPort.reset ∧
    s.control = ModeControl.reset ∧ s.settings = Settings.defaults ∧
    s.pins.hostReady = false ∧ s.pins.memReady = false

/-! ### The terms statements are made in -/

/-- The instant a REQUEST issued now is overdue (spec/06 R130). -/
def State.overdueAt (s : State) : Micros := s.now + s.settings.respTimeout

/-- Dispatch runs in ENGAGED, and the head r lies in burst o of tile t, inside the managed window
(spec/02 R26, R32). -/
def State.HeadAt (s : State) (r : HostRequest) (t : Tile) (o : Nat) : Prop :=
  s.control.mode = .engaged ∧ s.ret.state = .active ∧ s.requests.head? = some r ∧
  (burstAddr r.addr).toNat < s.settings.capacityBytes ∧
  tileOfAddr s.settings (burstAddr r.addr).toNat = t ∧
  offsetOfAddr s.settings (burstAddr r.addr).toNat = o

/-- The arbiter grants the head while tag is the lowest FREE one, and no credit is owed to the host
(spec/06 R130, R132, spec/07 R156). -/
def State.GrantsHead (s : State) (tag : Tag) : Prop :=
  s.grant = some .head ∧ s.lowestFree = some tag ∧ s.host.owed = 0

/-- What a local answer of the head leaves, but for its notice (spec/02 R43). -/
def State.afterAnswer (s : State) (r : HostRequest) (st : HostStatus) (data : Option Burst) : State :=
  { s with
    requests := s.requests.tail,
    dispatch := { headClass := none, claim := none },
    host := { s.host with
      balance := s.host.balance + 1,
      outstanding := dropTag s.host.outstanding r.tag,
      sent := s.host.sent ++ [.response r.tag st data, .credit 1] } }

/-- What the issue of the head under a tag leaves, but for its effect on a tile or a skip list
(spec/02 R44, spec/06 R128, R130, R134). -/
def State.afterIssue (s : State) (r : HostRequest) (tag : Tag) (skip : Option SkipLink)
    (body : ReqBody) : State :=
  { s with
    requests := s.requests.tail,
    dispatch := { headClass := none, claim := none },
    tags := s.tags.set tag
      (.inUse (.host r.body.kind (burstAddr r.addr) r.tag skip) s.overdueAt),
    link := { s.link with
      credits := s.link.credits - 1,
      fillPass := if s.chan0.asks || s.chan1.asks then s.link.fillPass + 1 else s.link.fillPass,
      sent := s.link.sent ++ [.request tag (burstAddr r.addr) body] },
    host := { s.host with
      balance := s.host.balance + 1,
      sent := s.host.sent ++ [.credit 1] } }

/-- What the issue of a fill write under a tag leaves, but for the channel's own record
(spec/03 R58, R59, R64, spec/06 R128, R130, R134). -/
def State.afterFillIssue (s : State) (c : Chan) (t : Tile) (o : Nat) (tag : Tag) : State :=
  { s with
    tags := s.tags.set tag (.inUse (.fill (fillAddr s.settings t o) c o) s.overdueAt),
    link := { s.link with
      credits := s.link.credits - 1,
      fillPass := 0,
      lastGranted := c,
      sent := s.link.sent ++ [.request tag (fillAddr s.settings t o)
        (.write fullMask (fillBurst s.settings.fillWord))] } }

/-- The fill write of channel c at offset o is downstream under a tag: the tag's entry and the
channel's in-flight entry e stand for one write (spec/06 R138). -/
def State.FillDownstream (s : State) (c : Chan) (o : Nat) (tag : Tag) (a : Addr) (d : Micros)
    (e : FlightEntry) : Prop :=
  s.tags[tag] = .inUse (.fill a c o) d ∧ e ∈ (s.chan c).inFlight ∧ e.offset = o ∧
  e.status = .issued tag ∧ (s.chan c).inFlight.Pairwise (fun x y => x.offset < y.offset)

/-- A frame whose command was taken at the end of byte t: data out is 0x00, ACCEPTED, 0x00 in bytes
2 to t, and the reply (spec/09 R174, R176, R195). -/
def takenFrame (t : Nat) (reply : List Byte) : Frame :=
  { position := t + 1, decided := true,
    dataOut := 0x00 :: 0x5A :: (List.replicate (t - 1) 0x00 ++ reply) }

/-- A frame is in progress and its command is still to be taken (spec/09 R174, R175). -/
def State.FrameOpen (s : State) : Prop := ∃ f, s.port.frame = some f ∧ f.decided = false

/-- The state with the current frame's command taken at the end of byte t, and this reply. -/
def State.replied (s : State) (t : Nat) (reply : List Byte) : State :=
  { s with port := { s.port with frame := some (takenFrame t reply) } }

/-- The command c is a frame that carries the long command lc (spec/09 R195). -/
def CarriesLong (c : Instr) : LongCmd → Prop
  | .engage => ∃ o, c = .engage o
  | .disengage => c = .disengage
  | .restart => c = .restart
  | .discard => ∃ f l, c = .discard f l
  | .prepare => ∃ f l, c = .prepare f l
  | .adopt => ∃ f l, c = .adopt f l

/-- The frame byte at whose end a long command is taken: the larger of 1 and its parameter count
(spec/09 R176, R195). -/
def takenAt : LongCmd → Nat
  | .engage => 1
  | .disengage => 1
  | .restart => 1
  | .discard => 2
  | .prepare => 2
  | .adopt => 2

/-- The port right after a long command was accepted, with its outcome as the event left it
(spec/09 R185). -/
def MgmtPort.accepted (p : MgmtPort) (c : LongCmd) (walk : Option RangeWalk) : MgmtPort :=
  { p with
    frame := some (takenFrame (takenAt c) [0x01, 0x00]),
    running := some c,
    result := { command := some c, outcome := .running, changed := 0, unchanged := 0 },
    rangeWalk := walk }

/-- The port right after a long command was accepted and ended in the same event (spec/09 R187). -/
def MgmtPort.acceptedDone (p : MgmtPort) (c : LongCmd) : MgmtPort :=
  { p with
    frame := some (takenFrame (takenAt c) [0x02, 0x00]),
    running := none,
    result := { command := some c, outcome := .done, changed := 0, unchanged := 0 },
    rangeWalk := none }

/-- The walk of a running range command, its claims not held and, for PREPARE, no take due: c is the
command of its next claim (spec/05 R111, R119, spec/04 R105). -/
def State.Walks (s : State) (c : Instr) (w : RangeWalk) : Prop :=
  s.port.rangeWalk = some w ∧
  ((c = .discardClaim ∧ s.port.running = some .discard) ∨
   (c = .prepareClaim ∧ s.port.running = some .prepare ∧ s.takeDue = false) ∨
   (c = .adoptClaim ∧ s.port.running = some .adopt ∧
     (s.ret.state = .active ∨ s.ret.state = .draining)))

/-- A channel that lost its tile, with the in-flight entries it still awaits: CANCELLING, or IDLE
with cursor 0 where it awaits none (spec/03 R76, R77). -/
def Channel.leaving (r : Channel) (awaited : List FlightEntry) : Channel :=
  { r with
    state := if awaited = [] then .idle else .cancelling,
    cursor := if awaited = [] then 0 else r.cursor,
    skip := [],
    inFlight := awaited }

/-- A RESPONSE of the host link. -/
def HostMsg.isResponse : HostMsg → Bool
  | .response _ _ _ => true
  | .credit _ => false

end Sys2Proof.Machine
end

