-- ==== Sys2Proof/Certificates/Slice0/Obligations.lean ====
section
/-! DEFINITION. The statements for the provers. Each is about every state that meets its hypotheses,
reached by a run or not. `s.post n` stands for the posting of a notice, which
`Obligations.PostedNoticeIsMaskedStoredOrLost` says in full, and `s.setChan c r` for a channel's new
record with its request to the arbiter as R57 has it. -/

open Sys2Proof Sys2Proof.Machine

/-! ### The machine's step -/

/-- The block's step runs the command at the front of its queue on the state with the queue's rest.
With no command waiting, a drain whose conditions hold completes before any time passes (R86);
where none does and no deadline falls at the clock's instant it counts one microsecond, and where one
does that deadline passes (R213). That an idle step does this, and the lower tag first of deadlines
that fall together, is the model's choice (notes/assumptions/3.md, 4.md, 28.md). -/
def Obligations.StepRunsTheFrontCommand : Prop :=
  ∀ s : State,
    (∀ c rest, s.pending = c :: rest → step s = exec c { s with pending := rest }) ∧
    (s.pending = [] → s.ret.state = .draining → (∀ t : Tag, (s.tags[t]).isInUse = false) →
      (s.control.mode = .bypass ∨ s.control.mode = .engaged) → step s = exec .drainCompletion s) ∧
    (s.pending = [] →
      (s.ret.state ≠ .draining ∨ (∃ t : Tag, (s.tags[t]).isInUse = true) ∨
        (s.control.mode ≠ .bypass ∧ s.control.mode ≠ .engaged)) →
      s.NoDeadlineBefore (s.now + 1) → step s = .next { s with now := s.now + 1 }) ∧
    (s.pending = [] → s.ClockLaw →
      (∀ t : Tag, (∀ u : Tag, u < t → ∀ o, s.tags[u] ≠ .inUse o s.now) →
        (∀ k a h l, s.tags[t] = .inUse (.host k a h l) s.now → step s = exec (.responseTimeout t) s) ∧
        (∀ a c o, s.tags[t] = .inUse (.fill a c o) s.now → step s = exec (.fillWriteTimeout t) s)) ∧
      (s.ret.deadline = some s.now → (∀ (u : Tag) o, s.tags[u] ≠ .inUse o s.now) →
        (s.ret.state = .entering → step s = exec .entryTimeout s) ∧
        (s.ret.state = .exiting → s.ret.exitAttempts = 1 → step s = exec .exitTimeout s) ∧
        (s.ret.state = .exiting → s.ret.exitAttempts = 2 → step s = exec .halt s)))

/-- The state after reset meets every law of Safety.lean. The pin levels and the clock that stay are
the model's choice (notes/assumptions/1.md, 2.md, 11.md). -/
def Obligations.ResetMeetsEveryLaw : Prop :=
  State.reset.CreditLaw ∧ State.reset.HostTagLaw ∧ State.reset.NoticeLaw ∧ State.reset.LinkLaw ∧
  State.reset.TrackingLaw ∧ State.reset.TagLaw ∧ State.reset.HandshakeLaw ∧
  State.reset.RetentionLaw ∧ State.reset.PortLaw ∧ State.reset.ResetLaw ∧ State.reset.ClockLaw

/-! ### Laws that every step keeps -/

/-- R157: balance, queued requests and credits owed total 16 from link-up on, and owed is 0 between
events (R156). -/
def Obligations.StepKeepsCreditLaw : Prop :=
  ∀ s t : State, s.CreditLaw → step s = .next t → t.CreditLaw

/-- R155, R131: the outstanding host tags are those of the queued requests and of the IN_USE
host-origin entries, each held once. -/
def Obligations.StepKeepsHostTagLaw : Prop :=
  ∀ s t : State, s.HostTagLaw → step s = .next t → t.HostTagLaw

/-- R165, R166, R170, R190, R128, R134, R146, R213: the bound of the Notice Queue, the lost count and
ATTN_N; the settings in range, the link credit counter at most 255 and 0 before link-up, the
fill-pass count at most 15, and only directives waiting for link-up; and the clock runs past no
deadline, so that each passes at its instant. The clock's advance by steps is the model's choice
(notes/assumptions/3.md, 4.md), and so is the list of directives that wait
(notes/assumptions/12.md). -/
def Obligations.StepKeepsNoticeAndLinkLaws : Prop :=
  ∀ s t : State, step s = .next t →
    (s.NoticeLaw → t.NoticeLaw) ∧ (s.LinkLaw → t.LinkLaw) ∧
    (s.HandshakeLaw → s.ClockLaw → t.ClockLaw)

/-- R6, R48, R50, R54, R57, R68: the Tile Map, the channels with their lists and requests, the Fill
Queue and the mode agree. -/
def Obligations.StepKeepsTrackingLaw : Prop :=
  ∀ s t : State, s.TrackingLaw → step s = .next t → t.TrackingLaw

/-- R138, R50, R54: the Tag Pool agrees with the in-flight and skip lists. -/
def Obligations.StepKeepsTagLaw : Prop :=
  ∀ s t : State, s.TrackingLaw → s.TagLaw → step s = .next t → t.TagLaw

/-- R81, R82, R83, R84: the handshake's pins, flags, deadline and attempt count fit the retention
state, and no drain that is due has failed to start. -/
def Obligations.StepKeepsHandshakeLaw : Prop :=
  ∀ s t : State, s.HandshakeLaw → step s = .next t → t.HandshakeLaw

/-- R91: in ENTERING, RETAINED and EXITING every LIVE or FILLING tile lies in a kept lane and a kept
band, and no tag is IN_USE. -/
def Obligations.StepKeepsRetentionLaw : Prop :=
  ∀ s t : State, s.TrackingLaw → s.RetentionLaw → step s = .next t → t.RetentionLaw

/-- R186, R187, R197: the running long command, its result record, its walk and the mode agree. -/
def Obligations.StepKeepsPortLaw : Prop :=
  ∀ s t : State, s.PortLaw → step s = .next t → t.PortLaw

/-- R213: while RST_N is low every block stays at its hard-reset value. -/
def Obligations.StepKeepsResetLaw : Prop :=
  ∀ s t : State, s.ResetLaw → step s = .next t → t.ResetLaw

/-! ### Rules of the whole machine -/

/-- R194: settings change by SET and hard reset, and by nothing else. -/
def Obligations.SettingsChangeOnlyBySetAndHardReset : Prop :=
  ∀ (c : Instr) (s t : State), exec c s = .next t → t.settings ≠ s.settings →
    c = .hardReset ∨ ∃ ident value, c = .set ident value

/-- R48: a tile becomes FILLING only by the fill start and by the take, and then from VOID or from
QUEUED, with its channel becoming FILLING on it. -/
def Obligations.TileBecomesFillingOnlyByStartOrTake : Prop :=
  ∀ (i : Instr) (s t : State) (k : Tile) (c : Chan), exec i s = .next t →
    s.tiles[k] ≠ .filling c → t.tiles[k] = .filling c →
    (t.chan c).state = .filling k ∧
    ((i = .fillStart ∧ s.tiles[k] = .void) ∨ (∃ d, i = .take d ∧ s.tiles[k] = .queued))

/-- R126: a REQUEST leaves on the memory link only in a grant, one at a time, for one link credit;
what any other command sends holds none. That what waits for link-up is directives is part of
`State.LinkLaw`, which `Obligations.StepKeepsNoticeAndLinkLaws` is about. -/
def Obligations.RequestsLeaveOnlyAtGrants : Prop :=
  ∀ (i : Instr) (s t : State), (∀ m ∈ s.link.held, m.isRequest = false) → exec i s = .next t →
    ∃ l, t.link.sent = s.link.sent ++ l ∧
      ((∀ m ∈ l, m.isRequest = false) ∨
       (0 < s.link.credits ∧ t.link.credits = s.link.credits - 1 ∧
        (i = .headGrant ∨ ∃ c, i = .channelGrant c) ∧
        ∃ (tag : Tag) (a : Addr) (b : ReqBody), l = [.request tag a b] ∧
          s.lowestFree = some tag ∧ (t.tags[tag]).isInUse = true))

/-- R151: in every event the RESPONSEs come before the one CREDIT, which grants 1 to 16 credits. -/
def Obligations.ResponsesPrecedeTheCredit : Prop :=
  ∀ (i : Instr) (s t : State), s.CreditLaw → exec i s = .next t →
    ∃ l, (∀ m ∈ l, m.isResponse = true) ∧
      (t.host.sent = s.host.sent ++ l ∨
       ∃ n, 1 ≤ n ∧ n ≤ 16 ∧ t.host.sent = s.host.sent ++ l ++ [.credit n])

/-- R197, R203, R206: the mode changes only as its table has it, each change by the commands in which
its event falls: DISENGAGING ends where the channels are IDLE, and RESTARTING where no tag is IN_USE,
so in the settling of a tag, or in the row of its own that the table gives the end
(notes/assumptions/8.md). -/
def Obligations.ModeChangesFollowTheTable : Prop :=
  ∀ (i : Instr) (s t : State), s.ModeLaw → s.PortLaw → exec i s = .next t →
    t.control.mode = s.control.mode ∨
    (i = .hardReset ∧ t.control.mode = .bypass) ∨
    (s.control.mode = .bypass ∧ t.control.mode = .engaging ∧ ∃ o, i = .engage o) ∨
    (s.control.mode = .engaging ∧ t.control.mode = .engaged ∧ i = .engageWalkClaim) ∨
    (s.control.mode = .engaged ∧ t.control.mode = .disengaging ∧ i = .disengage) ∨
    (s.control.mode = .engaged ∧ t.control.mode = .bypass ∧ (i = .disengage ∨ i = .restart)) ∨
    (s.control.mode = .disengaging ∧ t.control.mode = .bypass ∧
      (i = .disengageEnd ∨ (∃ w st data, i = .response w st data) ∨
        ∃ tag, i = .responseTimeout tag ∨ i = .fillWriteTimeout tag)) ∨
    ((s.control.mode = .bypass ∨ s.control.mode = .engaged) ∧ t.control.mode = .restarting ∧
      i = .restart) ∨
    (s.control.mode = .restarting ∧ t.control.mode = .bypass ∧
      (i = .restartClear ∨ (∃ w st data, i = .response w st data) ∨
        ∃ tag, i = .responseTimeout tag ∨ i = .fillWriteTimeout tag))

/-- Chapter 4: the retention state changes only as R84, R86, R88, R92, R93, R95 to R100 and R107
have it, and SLP_ACK rises only where ENTER_DONE makes the state RETAINED (R81). While a drain's
completion is due, the Retention Controller's record changes only by it, by a fall of SLP_REQ, by
hard reset, and by a done message, which finds the drain completed (R86): that it does so within its
own command is the model's form (notes/assumptions/28.md). -/
def Obligations.RetentionChangesFollowTheRules : Prop :=
  ∀ (i : Instr) (s t : State), s.RetentionLaw → exec i s = .next t →
    (s.ret.slpAck = false → t.ret.slpAck = true →
      i = .enterDone ∧ t.ret.state = .retained ∧
      (s.ret.state = .entering ∨ (s.ret.state = .draining ∧
        (∀ k : Tag, (s.tags[k]).isInUse = false) ∧
        (s.control.mode = .bypass ∨ s.control.mode = .engaged)))) ∧
    (s.ModeLaw → s.ret.state = .draining → (∀ k : Tag, (s.tags[k]).isInUse = false) →
      (s.control.mode = .bypass ∨ s.control.mode = .engaged) → t.ret ≠ s.ret →
      i = .drainCompletion ∨ i = .slpReqFall ∨ i = .hardReset ∨
        (s.link.up = true ∧ (i = .enterDone ∨ i = .exitDone))) ∧
    (t.ret.state = s.ret.state ∨
     (i = .hardReset ∧ t.ret.state = .active) ∨
     (s.ret.state = .active ∧ t.ret.state = .draining) ∨
     (s.ret.state = .draining ∧ (t.ret.state = .entering ∨ t.ret.state = .active)) ∨
     (s.ret.state = .draining ∧ (∀ k : Tag, (s.tags[k]).isInUse = false) ∧
       (s.control.mode = .bypass ∨ s.control.mode = .engaged) ∧
       (t.ret.state = .retained ∨ t.ret.state = .exiting) ∧ i = .enterDone) ∨
     (s.ret.state = .entering ∧ t.ret.state = .retained ∧ i = .enterDone) ∨
     (s.ret.state = .entering ∧ t.ret.state = .exiting ∧ (i = .enterDone ∨ i = .entryTimeout)) ∨
     (s.ret.state = .retained ∧ t.ret.state = .exiting ∧
       (i = .slpReqFall ∨ ∃ r, i = .request r)) ∨
     (s.ret.state = .exiting ∧ (t.ret.state = .active ∨ t.ret.state = .draining) ∧
       i = .exitDone) ∨
     (s.ret.state = .exiting ∧ t.ret.state = .halted ∧ i = .halt) ∨
     (s.ret.state = .halted ∧ (t.ret.state = .active ∨ t.ret.state = .draining)))

/-! ### Notices -/

/-- R164: a notice is masked, stored or lost. -/
def Obligations.PostedNoticeIsMaskedStoredOrLost : Prop :=
  ∀ (s : State) (n : Notice),
    (s.settings.noticeMask.getLsbD n.kind.code = false → s.post n = s) ∧
    (s.settings.noticeMask.getLsbD n.kind.code = true → s.notices.records.length ≤ 31 →
      s.post n = { s with notices :=
        { records := s.notices.records ++ [{ seq := s.notices.counter, notice := n }],
          lost := s.notices.lost, counter := s.notices.counter + 1, attnLow := true } }) ∧
    (s.settings.noticeMask.getLsbD n.kind.code = true → s.notices.records.length = 32 →
      s.post n = { s with notices :=
        { s.notices with lost := min 65535 (s.notices.lost + 1),
                         counter := s.notices.counter + 1 } })

/-! ### Host link -/

/-- R153, R154: a request without credit, and one under an outstanding host tag, are dropped. -/
def Obligations.OverrunAndClashAreDropped : Prop :=
  ∀ (s : State) (r : HostRequest), s.host.up = true → s.host.owed = 0 →
    (s.host.balance = 0 → exec (.request r) s = .next
      (s.post { kind := .creditOverrun, addr := some (burstAddr r.addr),
                hostTag := some r.tag })) ∧
    (0 < s.host.balance → hasTag s.host.outstanding r.tag = true → exec (.request r) s = .next
      { s.post { kind := .tagClash, addr := some (burstAddr r.addr), hostTag := some r.tag } with
        host := { s.host with sent := s.host.sent ++ [.credit 1] } })

/-- R152, R23, R83, R96: an admitted request is handled by the retention state at its arrival. -/
def Obligations.AdmittedRequestMeetsRetentionState : Prop :=
  ∀ (s : State) (r : HostRequest), s.host.up = true → s.host.owed = 0 → 0 < s.host.balance →
    hasTag s.host.outstanding r.tag = false →
    let h : HostLink := { s.host with balance := s.host.balance - 1,
                                      outstanding := addTag s.host.outstanding r.tag }
    let refused : HostLink := { s.host with
      sent := s.host.sent ++ [.response r.tag .refused none, .credit 1] }
    (s.ret.state = .active ∨ s.ret.state = .draining ∨ s.ret.state = .exiting →
      exec (.request r) s = .next { s with host := h, requests := s.requests ++ [r] }) ∧
    (s.ret.state = .entering →
      exec (.request r) s = .next { s with
        host := h, requests := s.requests ++ [r],
        ret := { s.ret with
          pendingWake := s.ret.pendingWake || s.settings.wakeOnAccess } }) ∧
    (s.ret.state = .retained → s.settings.wakeOnAccess = true →
      exec (.request r) s = .next { s with
        host := h, requests := s.requests ++ [r],
        link := s.link.direct .retainExit,
        ret := { s.ret with
          state := .exiting, exitAttempts := 1,
          releaseNeeded := s.ret.releaseNeeded || s.pins.slpReqHigh,
          deadline := some (s.now + s.settings.directiveTimeout * 1000) } }) ∧
    (s.ret.state = .retained → s.settings.wakeOnAccess = false →
      exec (.request r) s = .next
        { s.post { kind := .asleepRefused, addr := some (burstAddr r.addr),
                   hostTag := some r.tag } with host := refused }) ∧
    (s.ret.state = .halted → exec (.request r) s = .next { s with host := refused })

/-- R161, R213, R128: the two link-ups, a CREDIT on the memory link, and no message taken before.
The record of messages sent is the model's (notes/assumptions/21.md). -/
def Obligations.LinkUpsAndCredits : Prop :=
  ∀ (s : State) (n : Fin 256),
    (s.pins.inReset = false → s.host.up = false → s.host.owed = 0 → s.host.balance = 0 →
      exec .hostLinkUp s = .next { s with
        host := { s.host with up := true, balance := 16,
                              sent := s.host.sent ++ [.credit 16] } }) ∧
    (s.pins.inReset = false → s.link.up = false →
      exec .memoryLinkUp s = .next { s with
        link := { s.link with up := true, held := [], sent := s.link.sent ++ s.link.held } }) ∧
    (s.host.up = true → exec .hostLinkUp s = .next s) ∧
    (s.link.up = true → exec .memoryLinkUp s = .next s) ∧
    (s.link.up = true → exec (.credit n) s = .next { s with
        link := { s.link with credits := min 255 (s.link.credits + n.val) } }) ∧
    (s.host.up = false → ∀ r, exec (.request r) s = .next s) ∧
    (s.link.up = false →
      exec (.credit n) s = .next s ∧ exec .enterDone s = .next s ∧ exec .exitDone s = .next s ∧
      ∀ w st data, exec (.response w st data) s = .next s)

/-! ### Memory link -/

/-- R136, R137: the response to an IN_USE host-origin entry frees it and answers the host; the skip
effect, and the event that the settling completes, are those of
`Obligations.SkipEntryTakesItsWritesOutcome` and `Obligations.SettlingCompletesTheWaitingEvent`. -/
def Obligations.ResponseAnswersTheHost : Prop :=
  ∀ (s : State) (w : Fin 64) (t : Tag) (st : MemStatus) (data : Burst) (k : Kind) (a : Addr)
    (ht : HostTag) (l : Option SkipLink) (d : Micros),
    s.link.up = true → w.val = t.val → s.tags[t] = .inUse (.host k a ht l) d →
    exec (.response w st data) s = .next (State.settleTag
      { s.handSkip l t (st = .ok) with
        tags := s.tags.set t .free,
        host := { s.host with
          outstanding := dropTag s.host.outstanding ht,
          sent := s.host.sent ++
            [.response ht (if st = .ok then .okay else .error)
              (if k = .read ∧ st = .ok then some data else none)] } })

/-- R52: the outcome of a skip-linked write confirms or removes the matching entry, and touches
nothing else; with no link nothing is touched. -/
def Obligations.SkipEntryTakesItsWritesOutcome : Prop :=
  ∀ (s : State) (c : Chan) (o : Nat) (t : Tag) (ok : Bool),
    s.handSkip none t ok = s ∧
    ((s.chan c).skip.Pairwise (fun x y => x.offset < y.offset) →
      s.handSkip (some { chan := c, offset := o }) t ok =
        s.setChan c { s.chan c with skip :=
          if ok then
            ((s.chan c).skip.map fun e =>
              if e.offset = o ∧ e.status = .issued t then { e with status := .confirmed } else e)
          else
            ((s.chan c).skip.filter fun e => ¬ (e.offset = o ∧ e.status = .issued t)) })

/-- R61, R67, R12: a fill write of a FILLING channel answered OK leaves the in-flight list; at the
end of the tile the channel completes it. -/
def Obligations.FillWriteAnsweredOk : Prop :=
  ∀ (s : State) (w : Fin 64) (t : Tag) (data : Burst) (c : Chan) (o : Nat) (a : Addr) (d : Micros)
    (e : FlightEntry) (k : Tile),
    s.link.up = true → w.val = t.val → s.control.mode ≠ .restarting →
    s.FillDownstream c o t a d e → (s.chan c).state = .filling k → s.tiles[k] = .filling c →
    let rest := (s.chan c).inFlight.filter fun x => x.offset ≠ o
    let u : State := { s with tags := s.tags.set t .free }
    ((s.chan c).cursor ≠ s.settings.burstCount ∨ (s.chan c).skip ≠ [] ∨ rest ≠ [] →
      exec (.response w .ok data) s =
        .next (u.setChan c { s.chan c with inFlight := rest }).settleTag) ∧
    ((s.chan c).cursor = s.settings.burstCount → (s.chan c).skip = [] → rest = [] →
      exec (.response w .ok data) s = .next (State.settleTag
        (({ u with tiles := s.tiles.set k .live }.setChan c
            { s.chan c with state := .idle, cursor := 0, skip := [], inFlight := [] }).post
          { kind := .fillDone, tile := some k, chan := some c })))

/-- R62, R65, R140, R76, R12: a fill write of a FILLING channel that fails, by an ERROR or by its
deadline, is to be retried after the first attempt and fails its tile after the second. The deadline
passes once none lies before it, and before that nothing happens (R213). That the event brings the
clock to the deadline is the model's choice (notes/assumptions/4.md). -/
def Obligations.FailedFillWriteIsRetriedOnce : Prop :=
  ∀ (s : State) (w : Fin 64) (t : Tag) (data : Burst) (c : Chan) (o : Nat) (a : Addr) (d : Micros)
    (e : FlightEntry) (k : Tile),
    s.link.up = true → w.val = t.val → s.control.mode ≠ .restarting →
    s.FillDownstream c o t a d e → (s.chan c).state = .filling k → s.tiles[k] = .filling c →
    let answered : State := { s with tags := s.tags.set t .free }
    let overdue : State :=
      { s.post { kind := .responseTimeout, addr := some a, chan := some c } with
        now := max s.now d, tags := s.tags.set t (.quarantined (.fill a c o)) }
    let waiting : Channel := { s.chan c with
      inFlight := (s.chan c).inFlight.map fun x =>
        if x.offset = o then { x with attempt := .second, status := .retryWait } else x }
    let left : Channel := (s.chan c).leaving
      ((s.chan c).inFlight.filter fun x => x.offset ≠ o ∧ x.status ≠ .retryWait)
    let retry : Notice := { kind := .fillRetry, tile := some k,
                            addr := some (fillAddr s.settings k o), chan := some c }
    let failed : Notice := { kind := .fillFailed, tile := some k,
                             addr := some (fillAddr s.settings k o), chan := some c }
    (e.attempt = .first →
      exec (.response w .error data) s = .next ((answered.setChan c waiting).post retry).settleTag ∧
      (s.NoDeadlineBefore d →
        exec (.fillWriteTimeout t) s =
          .next ((overdue.setChan c waiting).post retry).settleTag)) ∧
    (e.attempt = .second →
      exec (.response w .error data) s = .next (State.settleTag
        (({ answered with tiles := s.tiles.set k .failed }.setChan c left).post failed)) ∧
      (s.NoDeadlineBefore d →
        exec (.fillWriteTimeout t) s = .next (State.settleTag
          (({ overdue with tiles := s.tiles.set k .failed }.setChan c left).post failed)))) ∧
    (¬ s.NoDeadlineBefore d → exec (.fillWriteTimeout t) s = .next s)

/-- R66, R77, R78: the outcome of a fill write of a CANCELLING channel, or of any channel in
RESTARTING, only takes its entry away; a CANCELLING channel with none left becomes IDLE. That in
RESTARTING a CANCELLING channel becomes IDLE and one that is not CANCELLING keeps its state is the
model's reading of R66, R77 and R78 (notes/assumptions/15.md). That the event brings the clock to the
deadline is the model's choice (notes/assumptions/4.md). -/
def Obligations.IgnoredFillWriteOnlyLeavesItsList : Prop :=
  ∀ (s : State) (w : Fin 64) (t : Tag) (st : MemStatus) (data : Burst) (c : Chan) (o : Nat)
    (a : Addr) (d : Micros) (e : FlightEntry),
    s.link.up = true → w.val = t.val → s.FillDownstream c o t a d e →
    let rest := (s.chan c).inFlight.filter fun x => x.offset ≠ o
    let answered : State := { s with tags := s.tags.set t .free }
    let overdue : State :=
      { s.post { kind := .responseTimeout, addr := some a, chan := some c } with
        now := max s.now d, tags := s.tags.set t (.quarantined (.fill a c o)) }
    ((s.chan c).state = .cancelling → (s.chan c).skip = [] →
      exec (.response w st data) s =
        .next (answered.setChan c ((s.chan c).leaving rest)).settleTag ∧
      (s.NoDeadlineBefore d → exec (.fillWriteTimeout t) s =
        .next (overdue.setChan c ((s.chan c).leaving rest)).settleTag)) ∧
    (s.control.mode = .restarting → (s.chan c).state ≠ .cancelling →
      exec (.response w st data) s =
        .next (answered.setChan c { s.chan c with inFlight := rest }).settleTag ∧
      (s.NoDeadlineBefore d → exec (.fillWriteTimeout t) s =
        .next (overdue.setChan c { s.chan c with inFlight := rest }).settleTag))

/-- R139, R213: the deadline of an IN_USE host-origin entry quarantines it, posts RESPONSE_TIMEOUT,
answers the host TIMEOUT and removes the linked skip entry; it passes once no running deadline lies
before it, and before that nothing happens. That the event brings the clock to the deadline is the
model's choice (notes/assumptions/4.md). -/
def Obligations.HostDeadlineAnswersTimeout : Prop :=
  ∀ (s : State) (t : Tag) (k : Kind) (a : Addr) (ht : HostTag) (l : Option SkipLink) (d : Micros),
    s.tags[t] = .inUse (.host k a ht l) d →
    (s.NoDeadlineBefore d → exec (.responseTimeout t) s = .next (State.settleTag
      { (s.post { kind := .responseTimeout, addr := some a, hostTag := some ht }).handSkip
          l t false with
        now := max s.now d,
        tags := s.tags.set t (.quarantined (.host k a ht l)),
        host := { s.host with
          outstanding := dropTag s.host.outstanding ht,
          sent := s.host.sent ++ [.response ht .timeout none] } })) ∧
    (¬ s.NoDeadlineBefore d → exec (.responseTimeout t) s = .next s)

/-- R141, R136: a response for a QUARANTINED tag frees it and is otherwise discarded; one for a FREE
tag, or for a tag 48 to 63, changes the Notice Queue alone. -/
def Obligations.LateAndStrayResponsesReachNobody : Prop :=
  ∀ (s : State) (w : Fin 64) (t : Tag) (st : MemStatus) (data : Burst), s.link.up = true →
    (48 ≤ w.val → exec (.response w st data) s = .next (s.post { kind := .strayResponse })) ∧
    (w.val = t.val → s.tags[t] = .free →
      exec (.response w st data) s = .next (s.post { kind := .strayResponse })) ∧
    (∀ k a ht l, w.val = t.val → s.tags[t] = .quarantined (.host k a ht l) →
      exec (.response w st data) s = .next
        ({ s with tags := s.tags.set t .free }.post
          { kind := .lateResponse, addr := some a, hostTag := some ht })) ∧
    (∀ a c o, w.val = t.val → s.tags[t] = .quarantined (.fill a c o) →
      exec (.response w st data) s = .next
        ({ s with tags := s.tags.set t .free }.post
          { kind := .lateResponse, addr := some a, chan := some c }))

/-- R86, R203, R206: what the event that settles a tag completes, after its own effects: a drain,
the end of DISENGAGE, or the RESTART clear. -/
def Obligations.SettlingCompletesTheWaitingEvent : Prop :=
  ∀ s : State,
    (s.control.mode = .bypass ∨ s.control.mode = .engaged →
      (s.ret.state = .draining → (∀ t : Tag, (s.tags[t]).isInUse = false) →
        s.settleTag = s.completeDrain) ∧
      (s.ret.state ≠ .draining ∨ (∃ t : Tag, (s.tags[t]).isInUse = true) → s.settleTag = s)) ∧
    (s.control.mode = .engaging → s.settleTag = s) ∧
    (s.control.mode = .disengaging →
      (s.chan0.state = .idle → s.chan1.state = .idle → s.settleTag = s.endDisengage) ∧
      (s.chan0.state ≠ .idle ∨ s.chan1.state ≠ .idle → s.settleTag = s)) ∧
    (s.control.mode = .restarting →
      ((∀ t : Tag, (s.tags[t]).isInUse = false) → s.settleTag = s.clear) ∧
      ((∃ t : Tag, (s.tags[t]).isInUse = true) → s.settleTag = s))

/-! ### Retention -/

/-- R92, R97: ENTER_DONE taken in ENTERING. -/
def Obligations.EnterDoneEntersOrExits : Prop :=
  ∀ s : State, s.link.up = true → s.ret.state = .entering →
    let u := s.post { kind := .retainEntered, kept := some (s.ret.keptLanes, s.ret.keptBands) }
    (s.pins.slpReqHigh = true → s.ret.pendingWake = false →
      exec .enterDone s = .next { u with
        ret := { s.ret with state := .retained, deadline := none, slpAck := true } }) ∧
    (s.pins.slpReqHigh = true → s.ret.pendingWake = true →
      exec .enterDone s = .next { u with
        link := s.link.direct .retainExit,
        ret := { s.ret with
          state := .exiting, exitAttempts := 1, pendingWake := false, releaseNeeded := true,
          deadline := some (s.now + s.settings.directiveTimeout * 1000) } }) ∧
    (s.pins.slpReqHigh = false →
      exec .enterDone s = .next { u with
        link := s.link.direct .retainExit,
        ret := { s.ret with
          state := .exiting, exitAttempts := 1, pendingWake := false,
          deadline := some (s.now + s.settings.directiveTimeout * 1000) } })

/-- R101: a done message in a state that does not match it posts STRAY_DIRECTIVE and changes nothing
else. Where a drain's completion is due, it comes first (R86), and the message is then taken in
ENTERING: that both stand in the message's own command is the model's form
(notes/assumptions/28.md). -/
def Obligations.UnmatchedDoneMessageIsStray : Prop :=
  ∀ s : State, s.link.up = true →
    (s.ret.state ≠ .draining ∨ (∃ t : Tag, (s.tags[t]).isInUse = true) ∨
        (s.control.mode ≠ .bypass ∧ s.control.mode ≠ .engaged) →
      (s.ret.state ≠ .entering → exec .enterDone s = .next (s.post { kind := .strayDirective })) ∧
      (s.ret.state ≠ .exiting → exec .exitDone s = .next (s.post { kind := .strayDirective }))) ∧
    (s.ret.state = .draining → (∀ t : Tag, (s.tags[t]).isInUse = false) →
      (s.control.mode = .bypass ∨ s.control.mode = .engaged) →
      exec .exitDone s = .next (s.completeDrain.post { kind := .strayDirective }) ∧
      exec .enterDone s = exec .enterDone s.completeDrain)

/-- R98, R84: EXIT_DONE taken in EXITING completes the exit; with SLP_REQ high and release-needed
clear a new drain starts in the same event. -/
def Obligations.ExitDoneCompletesTheExit : Prop :=
  ∀ s : State, s.link.up = true → s.ret.state = .exiting →
    let u := s.post { kind := .retainExited }
    (s.pins.slpReqHigh = false ∨ s.ret.releaseNeeded = true →
      exec .exitDone s = .next { u with
        chan0 := { s.chan0 with
          paused := false,
          asks := ({ s.chan0 with paused := false } : Channel).wants s.control.mode
            s.settings.burstCount },
        chan1 := { s.chan1 with
          paused := false,
          asks := ({ s.chan1 with paused := false } : Channel).wants s.control.mode
            s.settings.burstCount },
        ret := { s.ret with
          state := .active, exitAttempts := 0, deadline := none, slpAck := false } }) ∧
    (s.pins.slpReqHigh = true → s.ret.releaseNeeded = false → s.pins.inReset = false →
      exec .exitDone s = .next { u with
        chan0 := { s.chan0 with paused := true, asks := false },
        chan1 := { s.chan1 with paused := true, asks := false },
        dispatch := { headClass := none, claim := none },
        ret := { s.ret with
          state := .draining, exitAttempts := 0, deadline := none, slpAck := false } })

/-- R93, R99, R97, R213: the directive deadline in ENTERING, and in EXITING at attempt 1, sends
RETAIN_EXIT with a new deadline; it passes once no running deadline lies before it, and before that
nothing happens. That the event brings the clock to the deadline is the model's choice
(notes/assumptions/4.md). -/
def Obligations.DirectiveDeadlineSendsRetainExit : Prop :=
  ∀ (s : State) (d : Micros), s.ret.deadline = some d →
    (¬ s.NoDeadlineBefore d →
      exec .entryTimeout s = .next s ∧ exec .exitTimeout s = .next s) ∧
    (s.NoDeadlineBefore d → s.ret.state = .entering →
      exec .entryTimeout s = .next { s.post { kind := .entryTimeout } with
        now := max s.now d,
        link := s.link.direct .retainExit,
        ret := { s.ret with
          state := .exiting, exitAttempts := 1, pendingWake := false,
          releaseNeeded := s.ret.releaseNeeded || s.pins.slpReqHigh,
          deadline := some (max s.now d + s.settings.directiveTimeout * 1000) } }) ∧
    (s.NoDeadlineBefore d → s.ret.state = .exiting → s.ret.exitAttempts = 1 →
      exec .exitTimeout s = .next { s.post { kind := .exitTimeout } with
        now := max s.now d,
        link := s.link.direct .retainExit,
        ret := { s.ret with
          exitAttempts := 2,
          deadline := some (max s.now d + s.settings.directiveTimeout * 1000) } })

/-- R100, R25: the directive deadline in EXITING at attempt 2 halts the part and flushes the Request
Queue REFUSED, in arrival order, with one CREDIT; it passes once no running deadline lies before it,
and before that nothing happens (R213). That the event brings the clock to the deadline is the
model's choice (notes/assumptions/4.md). -/
def Obligations.SecondExitTimeoutHalts : Prop :=
  ∀ (s : State) (d : Micros), s.ret.deadline = some d → s.ret.state = .exiting →
    s.ret.exitAttempts = 2 → s.host.owed = 0 →
    (¬ s.NoDeadlineBefore d → exec .halt s = .next s) ∧
    (s.NoDeadlineBefore d → exec .halt s = .next { (s.post { kind := .exitTimeout }).post { kind := .halted } with
      now := max s.now d,
      ret := { s.ret with state := .halted, deadline := none, slpAck := false },
      requests := [],
      dispatch := { headClass := none, claim := none },
      host := { s.host with
        balance := s.host.balance + s.requests.length,
        outstanding := s.requests.foldl (fun o r => dropTag o r.tag) s.host.outstanding,
        sent := s.host.sent ++ (s.requests.map fun r => .response r.tag .refused none) ++
          (if s.requests = [] then [] else [.credit s.requests.length]) } })

/-- R82, R84, R88, R95, R102: a rise and a fall of SLP_REQ in each retention state. -/
def Obligations.SlpReqChangesByRetentionState : Prop :=
  ∀ s : State,
    let high : Pins := { s.pins with slpReqHigh := true }
    let low : Pins := { s.pins with slpReqHigh := false }
    (s.pins.slpReqHigh = false → s.ret.state = .active → s.ret.releaseNeeded = false →
      s.pins.inReset = false →
      exec .slpReqRise s = .next { s with
        pins := high,
        chan0 := { s.chan0 with paused := true, asks := false },
        chan1 := { s.chan1 with paused := true, asks := false },
        dispatch := { headClass := none, claim := none },
        ret := { s.ret with state := .draining } }) ∧
    (s.pins.slpReqHigh = false → s.ret.state ≠ .active →
      exec .slpReqRise s = .next { s with pins := high }) ∧
    (s.pins.slpReqHigh = true → s.ret.state = .draining →
      exec .slpReqFall s = .next { s with
        pins := low,
        chan0 := { s.chan0 with
          paused := false,
          asks := ({ s.chan0 with paused := false } : Channel).wants s.control.mode
            s.settings.burstCount },
        chan1 := { s.chan1 with
          paused := false,
          asks := ({ s.chan1 with paused := false } : Channel).wants s.control.mode
            s.settings.burstCount },
        ret := { s.ret with state := .active, releaseNeeded := false } }) ∧
    (s.pins.slpReqHigh = true → s.ret.state = .retained →
      exec .slpReqFall s = .next { s with
        pins := low,
        link := s.link.direct .retainExit,
        ret := { s.ret with
          state := .exiting, exitAttempts := 1, releaseNeeded := false,
          deadline := some (s.now + s.settings.directiveTimeout * 1000) } }) ∧
    (s.pins.slpReqHigh = true → s.ret.state ≠ .draining → s.ret.state ≠ .retained →
      exec .slpReqFall s = .next { s with
        pins := low, ret := { s.ret with releaseNeeded := false } })

/-- R86, R90, R15: drain completion drops the DISCARDED tiles outside the new kept product, sends
RETAIN_ENTER and enters ENTERING; it is the same event after a settling (`State.completeDrain`).
Drain completion as a command of its own, and that it changes nothing where its conditions do not
hold, is the model's choice (notes/assumptions/5.md, 8.md). -/
def Obligations.DrainCompletionEnters : Prop :=
  ∀ s : State,
    (s.ret.state = .draining → (∀ t : Tag, (s.tags[t]).isInUse = false) →
      (s.control.mode = .bypass ∨ s.control.mode = .engaged) →
      exec .drainCompletion s = .next s.completeDrain) ∧
    (s.ret.state ≠ .draining ∨ (∃ t : Tag, (s.tags[t]).isInUse = true) ∨
      (s.control.mode ≠ .bypass ∧ s.control.mode ≠ .engaged) →
      exec .drainCompletion s = .next s) ∧
    (∃ tiles : Vector TileState 128,
      s.completeDrain = { s with
        tiles := tiles,
        link := s.link.direct (.retainEnter s.censusLanes s.censusBands),
        ret := { s.ret with
          state := .entering, keptLanes := s.censusLanes, keptBands := s.censusBands,
          deadline := some (s.now + s.settings.directiveTimeout * 1000) } } ∧
      ∀ t : Tile,
        (s.tiles[t] = .discarded →
          s.censusLanes.getLsbD (t.val % 8) = false ∨ s.censusBands.getLsbD (t.val / 8) = false →
          tiles[t] = .void) ∧
        (s.tiles[t] ≠ .discarded ∨
          (s.censusLanes.getLsbD (t.val % 8) = true ∧
            s.censusBands.getLsbD (t.val / 8) = true) →
          tiles[t] = s.tiles[t]))

/-- R89: in ENGAGED the kept sets are the floors with the lanes and the bands of the LIVE and
FILLING tiles, so that every such tile lies in the kept product; in BYPASS both are full. -/
def Obligations.KeptSetsFollowTheCensus : Prop :=
  ∀ s : State,
    (s.control.mode = .engaged →
      (∀ l : Lane, s.censusLanes.getLsbD l.val = true ↔
        s.settings.floorLanes.getLsbD l.val = true ∨
        ∃ t : Tile, t.val % 8 = l.val ∧
          (s.tiles[t] = .live ∨ ∃ c, s.tiles[t] = .filling c)) ∧
      (∀ b : Band, s.censusBands.getLsbD b.val = true ↔
        s.settings.floorBands.getLsbD b.val = true ∨
        ∃ t : Tile, t.val / 8 = b.val ∧
          (s.tiles[t] = .live ∨ ∃ c, s.tiles[t] = .filling c))) ∧
    (s.control.mode = .bypass →
      (∀ l : Lane, s.censusLanes.getLsbD l.val = true) ∧
      (∀ b : Band, s.censusBands.getLsbD b.val = true))

/-! ### Hard reset -/

/-- R209, R213, R22, R80, R84, R108, R129, R161, R172, R180, R188, R194: hard reset from any state,
and its end with SLP_REQ low and high. The pin levels and the clock that stay are the model's choice
(notes/assumptions/1.md, 2.md, 11.md). -/
def Obligations.HardResetAndItsEnd : Prop :=
  ∀ s : State, ∃ u : State, exec .hardReset s = .next u ∧
    (∀ t : Tile, u.tiles[t] = .untracked) ∧ (∀ t : Tag, u.tags[t] = .free) ∧
    u.requests = [] ∧ u.fillQueue = [] ∧
    u.dispatch = { headClass := none, claim := none } ∧
    (∀ c, u.chan c = { state := .idle, cursor := 0, paused := false, skip := [], inFlight := [],
                       asks := false }) ∧
    u.host = { up := false, balance := 0, owed := 0, outstanding := 0, sent := s.host.sent } ∧
    u.link = { up := false, credits := 0, fillPass := 0, lastGranted := .ch1, held := [],
               sent := s.link.sent } ∧
    u.ret = { state := .active, releaseNeeded := false, pendingWake := false, exitAttempts := 0,
              keptLanes := 0xFF, keptBands := 0xFFFF, deadline := none, slpAck := false } ∧
    u.notices = { records := [], lost := 0, counter := 0, attnLow := false } ∧
    u.port = { frame := none, running := none, rangeWalk := none,
               result := { command := none, outcome := .done, changed := 0, unchanged := 0 } } ∧
    u.control = { mode := .bypass, walk := none } ∧
    u.settings = { capacity := 2, granule := 0, fillWord := 0, voidPolicy := .flag,
                   wakeOnAccess := true, fillShare := 4, respTimeout := 256,
                   directiveTimeout := 8, floorLanes := 0, floorBands := 0,
                   noticeMask := 0x3FFFF } ∧
    u.pins = { s.pins with inReset := true, hostReady := false, memReady := false } ∧
    u.now = s.now ∧ u.pending = s.pending ∧
    (s.pins.slpReqHigh = false → exec .hardResetEnd u = .next { u with
      pins := { s.pins with inReset := false, hostReady := true, memReady := true } }) ∧
    (s.pins.slpReqHigh = true → exec .hardResetEnd u = .next { u with
      pins := { s.pins with inReset := false, hostReady := true, memReady := true },
      chan0 := { u.chan0 with paused := true },
      chan1 := { u.chan1 with paused := true },
      ret := { u.ret with state := .draining } })

/-! ### Classification of the head -/

/-- R32, R36, R33, R43: a head outside the window, one to a FAILED tile and a read of a VOID or
QUEUED tile are answered locally. -/
def Obligations.HeadIsAnsweredLocally : Prop :=
  ∀ (s : State) (r : HostRequest) (t : Tile) (o : Nat), s.host.owed = 0 →
    let a : Option Addr := some (burstAddr r.addr)
    let voidRead : State := s.post
      { kind := .voidRead, tile := some t, addr := a, hostTag := some r.tag }
    (s.control.mode = .engaged → s.ret.state = .active → s.requests.head? = some r →
      s.settings.capacityBytes ≤ (burstAddr r.addr).toNat →
      exec .headClassification s = .next
        ((s.post { kind := .range, addr := a, hostTag := some r.tag }).afterAnswer
          r .refused none)) ∧
    (s.HeadAt r t o → s.tiles[t] = .failed →
      exec .headClassification s = .next
        ((s.post { kind := .failedAccess, tile := some t, addr := a,
                   hostTag := some r.tag }).afterAnswer r .refused none)) ∧
    (s.HeadAt r t o → s.tiles[t] = .void ∨ s.tiles[t] = .queued → r.body.kind = .read →
      (s.settings.voidPolicy = .silent → exec .headClassification s = .next
        (s.afterAnswer r .okay (some (fillBurst s.settings.fillWord)))) ∧
      (s.settings.voidPolicy = .flag → exec .headClassification s = .next
        (voidRead.afterAnswer r .void (some (fillBurst s.settings.fillWord)))) ∧
      (s.settings.voidPolicy = .refuse → exec .headClassification s = .next
        (voidRead.afterAnswer r .refused none)))

/-- R26, R31, R35, R34, R8, R9: while dispatch is suspended nothing is classified or issued; in
BYPASS every head is FORWARD, and in ENGAGED a head whose tile is LIVE or DISCARDED; a head write to
a VOID tile makes a fill start on the IDLE channel of lower number, or a queue-at-head, and one to a
QUEUED tile makes a promotion. The claim on its way as a field of the state is the model's form of
R7 (notes/assumptions/9.md). -/
def Obligations.HeadIsForwardOrMakesItsClaim : Prop :=
  ∀ (s : State) (r : HostRequest),
    let becomes (d : DispatchUnit) : Prop :=
      exec .headClassification s = .next { s with dispatch := d }
    (s.ret.state ≠ .active ∨ (s.control.mode ≠ .bypass ∧ s.control.mode ≠ .engaged) →
      exec .headClassification s = .next s ∧ exec .headGrant s = .next s) ∧
    (s.control.mode = .bypass → s.ret.state = .active → s.requests.head? = some r →
      becomes { headClass := some .forward, claim := none }) ∧
    (∀ t o, s.HeadAt r t o →
      (s.tiles[t] = .live ∨ s.tiles[t] = .discarded →
        becomes { headClass := some .forward, claim := none }) ∧
      (r.body.kind = .write →
        (s.tiles[t] = .void → s.chan0.state = .idle →
          becomes { headClass := none, claim := some (.fillStart t .ch0) }) ∧
        (s.tiles[t] = .void → s.chan0.state ≠ .idle → s.chan1.state = .idle →
          becomes { headClass := none, claim := some (.fillStart t .ch1) }) ∧
        (s.tiles[t] = .void → s.chan0.state ≠ .idle → s.chan1.state ≠ .idle →
          becomes { headClass := some .wait, claim := some (.queueAtHead t) }) ∧
        (s.tiles[t] = .queued →
          becomes { headClass := some .wait, claim := some (.promotion t) })))

/-- R37 to R41: the head on a FILLING tile, by the in-flight list, the cursor and the skip list of
its channel. -/
def Obligations.HeadOnFillingTile : Prop :=
  ∀ (s : State) (r : HostRequest) (t : Tile) (o : Nat) (c : Chan),
    s.HeadAt r t o → s.tiles[t] = .filling c → s.host.owed = 0 →
    let waits : State := { s with dispatch := { headClass := some .wait, claim := none } }
    let forward : State := { s with dispatch := { headClass := some .forward, claim := none } }
    ((∃ e ∈ (s.chan c).inFlight, e.offset = o) → exec .headClassification s = .next waits) ∧
    ((∀ e ∈ (s.chan c).inFlight, e.offset ≠ o) →
      (o < (s.chan c).cursor → exec .headClassification s = .next forward) ∧
      ((s.chan c).cursor ≤ o →
        ((∀ e ∈ (s.chan c).skip, e.offset ≠ o) →
          (r.body.kind = .read → exec .headClassification s = .next
            (s.afterAnswer r .okay (some (fillBurst s.settings.fillWord)))) ∧
          (r.body.kind = .write → (s.chan c).skip.length < 32 →
            exec .headClassification s = .next forward) ∧
          (r.body.kind = .write → 32 ≤ (s.chan c).skip.length →
            exec .headClassification s = .next waits)) ∧
        (∀ e, (s.chan c).skipAt o = some e →
          (r.body.kind = .read → exec .headClassification s = .next forward) ∧
          (r.body.kind = .write → e.status = .confirmed →
            exec .headClassification s = .next forward) ∧
          (r.body.kind = .write → (∃ tag, e.status = .issued tag) →
            exec .headClassification s = .next waits))))

/-- R7, R8, R9, R69: the dispatch claims arrive against the record as it stands. A fill start that
finds no IDLE channel becomes a queue-at-head on its way, which is DEDUCED
(notes/assumptions/14.md). -/
def Obligations.DispatchClaimsArrive : Prop :=
  ∀ (s : State) (t : Tile) (c : Chan),
    (s.control.mode = .bypass ∨ s.control.mode = .engaged) → s.ret.state = .active →
    let clear : DispatchUnit := { headClass := none, claim := none }
    let waiting : DispatchUnit := { headClass := some .wait, claim := none }
    let started (k : Chan) : State :=
      { s with tiles := s.tiles.set t (.filling k), dispatch := clear }.setChan k
        { s.chan k with state := .filling t, cursor := 0, skip := [], inFlight := [] }
    (s.dispatch.claim = some (.fillStart t c) →
      (s.tiles[t] ≠ .void → exec .fillStart s = .next { s with dispatch := clear }) ∧
      (s.tiles[t] = .void → (s.chan c).state = .idle →
        exec .fillStart s = .next (started c)) ∧
      (s.tiles[t] = .void → (s.chan c).state ≠ .idle → (s.chan (otherChan c)).state = .idle →
        exec .fillStart s = .next (started (otherChan c))) ∧
      (s.tiles[t] = .void → (s.chan c).state ≠ .idle → (s.chan (otherChan c)).state ≠ .idle →
        exec .fillStart s = .next
          { s with dispatch := { headClass := some .wait, claim := some (.queueAtHead t) } })) ∧
    (s.dispatch.claim = some (.queueAtHead t) →
      (s.tiles[t] = .void → exec .queueAtHead s = .next
        { s with tiles := s.tiles.set t .queued, fillQueue := t :: s.fillQueue,
                 dispatch := waiting }) ∧
      (s.tiles[t] ≠ .void → exec .queueAtHead s = .next { s with dispatch := clear })) ∧
    (s.dispatch.claim = some (.promotion t) →
      (s.tiles[t] = .queued → s.fillQueue.Nodup → exec .promotion s = .next
        { s with fillQueue := t :: s.fillQueue.filter (fun x => x ≠ t), dispatch := waiting }) ∧
      (s.tiles[t] ≠ .queued → exec .promotion s = .next { s with dispatch := clear }))

/-! ### Grants -/

/-- R132, R133: the arbiter gives no grant without a FREE tag and a link credit, and chooses by the
requests that stand, the fill-pass count, FILL_SHARE and the last-granted channel. -/
def Obligations.ArbiterChoosesByFillShare : Prop :=
  ∀ s : State,
    ((∀ t : Tag, s.tags[t] ≠ .free) ∨ s.link.credits = 0 → s.grant = none) ∧
    ((∃ t : Tag, s.tags[t] = .free) → 0 < s.link.credits →
      (s.dispatch.headClass ≠ some .forward → s.chan0.asks = false → s.chan1.asks = false →
        s.grant = none) ∧
      (s.dispatch.headClass = some .forward →
        (s.chan0.asks = false ∧ s.chan1.asks = false) ∨ s.link.fillPass < s.settings.fillShare →
        s.grant = some .head) ∧
      (s.dispatch.headClass ≠ some .forward ∨ s.settings.fillShare ≤ s.link.fillPass →
        (s.chan0.asks = true → s.chan1.asks = false → s.grant = some (.chan .ch0)) ∧
        (s.chan0.asks = false → s.chan1.asks = true → s.grant = some (.chan .ch1)) ∧
        (s.chan0.asks = true → s.chan1.asks = true → s.link.lastGranted = .ch1 →
          s.grant = some (.chan .ch0)) ∧
        (s.chan0.asks = true → s.chan1.asks = true → s.link.lastGranted = .ch0 →
          s.grant = some (.chan .ch1))))

/-- R29, R31, R35, R38, R39, R10, R44: a granted head that is forwarded as received is issued, a read
at or ahead of the cursor whose offset holds a skip entry among them; a write to a DISCARDED tile
makes it LIVE in the same event; a head that is no longer FORWARD leaves the grant unused and is
classified (R29). -/
def Obligations.GrantedHeadIsIssuedAsReceived : Prop :=
  ∀ (s : State) (r : HostRequest) (tag : Tag), s.GrantsHead tag →
    (s.control.mode = .bypass → s.ret.state = .active → s.requests.head? = some r →
      exec .headGrant s = .next (s.afterIssue r tag none r.body)) ∧
    (∀ t o, s.HeadAt r t o →
      (s.tiles[t] = .live ∨ (s.tiles[t] = .discarded ∧ r.body.kind = .read) →
        exec .headGrant s = .next (s.afterIssue r tag none r.body)) ∧
      (s.tiles[t] = .discarded → r.body.kind = .write →
        exec .headGrant s = .next
          { s.afterIssue r tag none r.body with tiles := s.tiles.set t .live }) ∧
      (∀ c, s.tiles[t] = .filling c → o < (s.chan c).cursor →
        (∀ e ∈ (s.chan c).inFlight, e.offset ≠ o) →
        exec .headGrant s = .next (s.afterIssue r tag none r.body)) ∧
      (∀ c, s.tiles[t] = .filling c → r.body.kind = .read → (s.chan c).cursor ≤ o →
        (∀ e ∈ (s.chan c).inFlight, e.offset ≠ o) → (∃ e ∈ (s.chan c).skip, e.offset = o) →
        exec .headGrant s = .next (s.afterIssue r tag none r.body))) ∧
    (∀ u, exec .headClassification s = .next u → u.dispatch.headClass ≠ some .forward →
      exec .headGrant s = .next u)

/-- R40, R41, R44, R45, R51: a granted head write at or ahead of the cursor re-issues its CONFIRMED
entry as received, or is merged with the fill word and inserts an entry at its place. -/
def Obligations.GrantedWriteAheadOfCursorIsRecorded : Prop :=
  ∀ (s : State) (r : HostRequest) (tag : Tag) (t : Tile) (o : Nat) (c : Chan) (mask : ByteMask)
    (data : Burst),
    s.GrantsHead tag → s.HeadAt r t o → s.tiles[t] = .filling c → r.body = .write mask data →
    (∀ e ∈ (s.chan c).inFlight, e.offset ≠ o) → (s.chan c).cursor ≤ o →
    (s.chan c).skip.Pairwise (fun x y => x.offset < y.offset) →
    ((∃ e ∈ (s.chan c).skip, e.offset = o ∧ e.status = .confirmed) →
      exec .headGrant s = .next
        ((s.afterIssue r tag (some { chan := c, offset := o }) r.body).setChan c
          { s.chan c with skip := (s.chan c).skip.map fun e =>
              if e.offset = o then { e with status := .issued tag } else e })) ∧
    ((∀ e ∈ (s.chan c).skip, e.offset ≠ o) → (s.chan c).skip.length < 32 →
      ∃ body : Burst,
        (∀ i : Fin 64, body[i] =
          if mask.getLsbD i.val then data[i]
          else s.settings.fillWord.extractLsb' (56 - 8 * (i.val % 8)) 8) ∧
        exec .headGrant s = .next
          ((s.afterIssue r tag (some { chan := c, offset := o })
              (.write (BitVec.allOnes 64) body)).setChan c
            { s.chan c with skip :=
                (s.chan c).skip.filter (fun e => e.offset < o) ++
                [{ offset := o, status := .issued tag }] ++
                (s.chan c).skip.filter (fun e => o < e.offset) }))

/-- R58, R59, R64, R134: a granted channel reissues its RETRY_WAIT entry of lowest offset, or else
issues the fill write of its cursor burst, or else leaves the grant unused. -/
def Obligations.GrantedChannelIssuesAFillWrite : Prop :=
  ∀ (s : State) (c : Chan) (tag : Tag), s.grant = some (.chan c) → s.lowestFree = some tag →
    (∀ t, (s.chan c).state = .filling t → (s.chan c).paused = false →
      s.control.mode ≠ .restarting →
      (∀ e ∈ (s.chan c).inFlight, e.status = .retryWait →
        (∀ x ∈ (s.chan c).inFlight, x.status = .retryWait → e.offset ≤ x.offset) →
        (s.chan c).inFlight.Pairwise (fun x y => x.offset < y.offset) →
        exec (.channelGrant c) s = .next
          ((s.afterFillIssue c t e.offset tag).setChan c
            { s.chan c with inFlight := (s.chan c).inFlight.map fun x =>
                if x.offset = e.offset then
                  { x with attempt := .second, status := .issued tag }
                else x })) ∧
      ((∀ e ∈ (s.chan c).inFlight, e.status ≠ .retryWait) →
        (s.chan c).cursor < s.settings.burstCount → (s.chan c).inFlight.length < 4 →
        (∀ e ∈ (s.chan c).skip, e.offset ≠ (s.chan c).cursor) →
        exec (.channelGrant c) s = .next
          ((s.afterFillIssue c t (s.chan c).cursor tag).setChan c
            { s.chan c with
              cursor := (s.chan c).cursor + 1,
              inFlight := (s.chan c).inFlight ++
                [{ offset := (s.chan c).cursor, attempt := .first, status := .issued tag }] }))) ∧
    ((s.chan c).state = .idle ∨ (s.chan c).state = .cancelling ∨ (s.chan c).paused = true ∨
        s.control.mode = .restarting ∨
        ((∀ e ∈ (s.chan c).inFlight, e.status ≠ .retryWait) ∧
          (s.settings.burstCount ≤ (s.chan c).cursor ∨ 4 ≤ (s.chan c).inFlight.length ∨
            ∃ e ∈ (s.chan c).skip, e.offset = (s.chan c).cursor)) →
      exec (.channelGrant c) s = .next (s.setChan c (s.chan c)))

/-! ### The Fill Queue and the cursor -/

/-- R11, R70, R71: the head tile of the Fill Queue is taken by an IDLE, unpaused channel, channel 0
first; a paused channel takes nothing (R49). That a TAKE by channel 1 changes nothing where channel 0
could take is the model's form of R71 (notes/assumptions/17.md), and that a TAKE whose conditions do
not hold changes nothing is its choice (notes/assumptions/5.md). -/
def Obligations.IdleChannelTakesTheQueueHead : Prop :=
  ∀ (s : State) (t : Tile) (rest : List Tile), s.fillQueue = t :: rest → s.tiles[t] = .queued →
    s.control.mode ≠ .restarting →
    let taken (c : Chan) : State :=
      { s with tiles := s.tiles.set t (.filling c), fillQueue := rest }.setChan c
        { s.chan c with state := .filling t, cursor := 0, skip := [], inFlight := [] }
    (s.chan0.state = .idle → s.chan0.paused = false → exec (.take .ch0) s = .next (taken .ch0)) ∧
    (s.chan1.state = .idle → s.chan1.paused = false →
      (s.chan0.state ≠ .idle ∨ s.chan0.paused = true → exec (.take .ch1) s = .next (taken .ch1)) ∧
      (s.chan0.state = .idle → s.chan0.paused = false → exec (.take .ch1) s = .next s)) ∧
    (∀ c, (s.chan c).paused = true → exec (.take c) s = .next s)

/-- R56, R67, R12: a FILLING channel steps over the CONFIRMED entry under its cursor, and completes
the tile where that was the last burst and nothing is in flight. -/
def Obligations.CursorStepsOverConfirmedEntry : Prop :=
  ∀ (s : State) (c : Chan) (t : Tile) (rest : List SkipEntry),
    (s.chan c).state = .filling t → s.tiles[t] = .filling c → s.control.mode ≠ .restarting →
    (s.chan c).skip = { offset := (s.chan c).cursor, status := .confirmed } :: rest →
    (∀ e ∈ rest, (s.chan c).cursor < e.offset) →
    ((s.chan c).cursor + 1 ≠ s.settings.burstCount ∨ rest ≠ [] ∨ (s.chan c).inFlight ≠ [] →
      exec (.cursorStep c) s = .next
        (s.setChan c { s.chan c with cursor := (s.chan c).cursor + 1, skip := rest })) ∧
    ((s.chan c).cursor + 1 = s.settings.burstCount → rest = [] → (s.chan c).inFlight = [] →
      exec (.cursorStep c) s = .next
        (({ s with tiles := s.tiles.set t .live }.setChan c
            { s.chan c with state := .idle, cursor := 0, skip := [], inFlight := [] }).post
          { kind := .fillDone, tile := some t, chan := some c }))

/-! ### Addresses and settings -/

/-- R2, R3, R4: decomposing the address of burst o of tile t gives back t and o, for every capacity
and granule; the address lies in the window and is a multiple of 64. -/
def Obligations.FillAddressDecomposesBack : Prop :=
  ∀ (g : Settings) (t : Tile) (o : Nat), o < g.burstCount →
    (fillAddr g t o).toNat < g.capacityBytes ∧ 64 ∣ (fillAddr g t o).toNat ∧
    tileOfAddr g (fillAddr g t o).toNat = t ∧ offsetOfAddr g (fillAddr g t o).toNat = o

/-- R190, R192, R193, R196: which numbers each setting accepts; the number a SET was given is the
number a GET returns for that setting, every other setting returns what it returned before, and the
settings stay in range. -/
def Obligations.SettingReadsBackAsItWasSet : Prop :=
  (∀ (g g' : Settings) (id : SettingId) (v : BitVec 64), g.put id v = some g' →
    g'.encode id = v.toNat ∧ (∀ other, other ≠ id → g'.encode other = g.encode other) ∧
    (g.InRange → g'.InRange)) ∧
  ∀ (g : Settings) (v : BitVec 64),
    (g.put .fillWord v).isSome = true ∧
    ((g.put .capacity v).isSome = true ↔ v.toNat ≤ 5) ∧
    ((g.put .granule v).isSome = true ↔ v.toNat ≤ 4) ∧
    ((g.put .voidPolicy v).isSome = true ↔ v.toNat ≤ 2) ∧
    ((g.put .wakeOnAccess v).isSome = true ↔ v.toNat ≤ 1) ∧
    ((g.put .fillShare v).isSome = true ↔ 1 ≤ v.toNat ∧ v.toNat ≤ 15) ∧
    ((g.put .respTimeout v).isSome = true ↔ 16 ≤ v.toNat ∧ v.toNat ≤ 4096) ∧
    ((g.put .directiveTimeout v).isSome = true ↔ 1 ≤ v.toNat ∧ v.toNat ≤ 64) ∧
    ((g.put .floorLanes v).isSome = true ↔ v.toNat ≤ 0xFF) ∧
    ((g.put .floorBands v).isSome = true ↔ v.toNat ≤ 0xFFFF) ∧
    ((g.put .noticeMask v).isSome = true ↔ v.toNat ≤ 0x3FFFF)

/-! ### The management port -/

/-- R174, R175, R176, R177, R179, R195: a frame's data in spells its command by code and parameters,
with later bytes disregarded and a frame too short abandoned; a frame begins and ends with
chip-select, whether its command was taken (FRAME_END) or not (FRAME_ABANDON), and one with an
unknown code is answered UNKNOWN and ignored; outside a frame whose command is still to be taken no
command changes anything. That one event stands for a frame's bytes is the model's choice
(notes/assumptions/7.md), and so are the commands a whole frame is made of
(notes/assumptions/27.md). -/
def Obligations.FramesBeginAndEnd : Prop :=
  (∀ (c : Instr) (code : Byte) (params later : List Byte), c.wellFormed = true →
    c.frameBytes = some (code :: params) → code ∈ knownCodes →
    commandOf code params = some c ∧
    (1 ≤ (params ++ later).length →
      frameCommands (code :: params ++ later) = [.frameBegin, c, .frameEnd]) ∧
    ∀ n, n ≤ max 1 params.length →
      frameCommands ((code :: params).take n) = [.frameBegin, .frameAbandon]) ∧
  (∀ code rest, code ∉ knownCodes →
    frameCommands (code :: rest) = [.frameBegin, .unknownCommand code, .frameAbandon]) ∧
  (commandOf 0x10 [] = some .status ∧ commandOf 0x11 [] = some .result ∧
    commandOf 0x16 [] = some .takeNotice ∧ commandOf 0x21 [] = some .disengage ∧
    commandOf 0x2F [] = some .restart ∧
    ∀ a b : Byte, commandOf 0x12 [a] = some (.get a) ∧ commandOf 0x14 [a] = some (.readTile a) ∧
      commandOf 0x15 [a] = some (.readChannel a) ∧ commandOf 0x20 [a] = some (.engage a) ∧
      commandOf 0x22 [a, b] = some (.discard a b) ∧ commandOf 0x23 [a, b] = some (.prepare a b) ∧
      commandOf 0x24 [a, b] = some (.adopt a b) ∧
      ∀ b0 b1 b2 b3 b4 b5 b6 b7 : Byte,
        commandOf 0x13 [a, b0, b1, b2, b3, b4, b5, b6, b7] =
          some (.set a (b0 ++ b1 ++ b2 ++ b3 ++ b4 ++ b5 ++ b6 ++ b7))) ∧
  ∀ s : State,
    (s.pins.csLow = false → s.pins.inReset = false → exec .frameBegin s = .next { s with
      pins := { s.pins with csLow := true },
      port := { s.port with
        frame := some { position := 0, decided := false, dataOut := [0x00] } } }) ∧
    (s.pins.csLow = true →
      exec .frameEnd s = .next { s with
        pins := { s.pins with csLow := false }, port := { s.port with frame := none } } ∧
      exec .frameAbandon s = .next { s with
        pins := { s.pins with csLow := false }, port := { s.port with frame := none } }) ∧
    (s.FrameOpen → ∀ code, code ∉ knownCodes →
      exec (.unknownCommand code) s = .next { s with port := { s.port with
        frame := some { position := 1, decided := true, dataOut := [0x00, 0xC3] } } }) ∧
    (¬ s.FrameOpen →
      exec .status s = .next s ∧ exec .result s = .next s ∧ exec .takeNotice s = .next s ∧
      exec .disengage s = .next s ∧ exec .restart s = .next s ∧
      ∀ a b v, exec (.get a) s = .next s ∧ exec (.set a v) s = .next s ∧
        exec (.readTile a) s = .next s ∧ exec (.readChannel a) s = .next s ∧
        exec (.engage a) s = .next s ∧ exec (.discard a b) s = .next s ∧
        exec (.prepare a b) s = .next s ∧ exec (.adopt a b) s = .next s ∧
        exec (.unknownCommand a) s = .next s)

/-- R181, R182, R183, R189, R192, R195, R196: the replies of STATUS, RESULT, GET, READ_TILE and
READ_CHANNEL; none of them changes anything else. That one event stands for a frame's bytes is the
model's choice (notes/assumptions/7.md). -/
def Obligations.ReadCommandsReplyAndChangeNothing : Prop :=
  ∀ s : State, s.FrameOpen → s.ret.exitAttempts ≤ 3 →
    exec .status s = .next (s.replied 1
      [s.control.mode.code, s.ret.state.code,
       BitVec.ofBool s.ret.releaseNeeded ++ BitVec.ofBool s.ret.pendingWake ++
         BitVec.ofNat 2 s.ret.exitAttempts ++ BitVec.ofBool s.ret.slpAck ++
         BitVec.ofBool s.port.running.isSome ++ 0#2,
       BitVec.ofNat 8 s.requests.length, s.chan0.state.code, s.chan1.state.code,
       BitVec.ofNat 8 s.fillQueue.length, BitVec.ofNat 8 s.notices.records.length,
       BitVec.ofNat 8 (s.notices.lost / 256), BitVec.ofNat 8 s.notices.lost,
       BitVec.ofNat 8 ((List.finRange 48).countP fun t => s.tags[t].isInUse),
       BitVec.ofNat 8 ((List.finRange 48).countP fun t => s.tags[t].isQuarantined)]) ∧
    exec .result s = .next (s.replied 1
      [commandCode s.port.result.command, s.port.result.outcome.code,
       s.port.result.outcome.reasonCode, BitVec.ofNat 8 s.port.result.changed,
       BitVec.ofNat 8 s.port.result.unchanged]) ∧
    (∀ b id, settingOf b = some id →
      exec (.get b) s = .next (s.replied 1 (0x00 :: bytesBE 8 (s.settings.encode id)))) ∧
    (∀ b, settingOf b = none →
      exec (.get b) s = .next (s.replied 1 [0x03, 0, 0, 0, 0, 0, 0, 0, 0])) ∧
    (∀ t : Tile, exec (.readTile (BitVec.ofNat 8 t.val)) s = .next (s.replied 1
      [0x00, s.tiles[t].code, s.tiles[t].chanCode])) ∧
    (∀ b : Byte, 128 ≤ b.toNat →
      exec (.readTile b) s = .next (s.replied 1 [0x03, 0x00, 0x00])) ∧
    (∀ c, exec (.readChannel (chanByte c)) s = .next (s.replied 1
      [0x00, (s.chan c).state.code, (s.chan c).state.tileCode,
       BitVec.ofNat 8 ((s.chan c).cursor / 65536), BitVec.ofNat 8 ((s.chan c).cursor / 256),
       BitVec.ofNat 8 (s.chan c).cursor, BitVec.ofNat 8 (s.chan c).skip.length,
       BitVec.ofNat 8 (s.chan c).inFlight.length, if (s.chan c).paused then 0x01 else 0x00])) ∧
    (∀ b : Byte, 2 ≤ b.toNat →
      exec (.readChannel b) s = .next (s.replied 1 [0x03, 0, 0, 0, 0, 0, 0, 0, 0]))

/-- R193, R190: the checks of SET in order, and the one setting it changes. That one event stands
for a frame's bytes is the model's choice (notes/assumptions/7.md). -/
def Obligations.SetIsCheckedInOrder : Prop :=
  ∀ (s : State) (b : Byte) (v : BitVec 64), s.FrameOpen →
    (settingOf b = none → exec (.set b v) s = .next (s.replied 9 [0x03])) ∧
    (∀ id, settingOf b = some id →
      (s.control.mode ≠ .bypass → id = .capacity ∨ id = .granule ∨ id = .fillWord →
        exec (.set b v) s = .next (s.replied 9 [0x01])) ∧
      (s.control.mode = .bypass ∨ (id ≠ .capacity ∧ id ≠ .granule ∧ id ≠ .fillWord) →
        (s.settings.put id v = none → exec (.set b v) s = .next (s.replied 9 [0x03])) ∧
        (∀ g, s.settings.put id v = some g →
          exec (.set b v) s = .next { s.replied 9 [0x00] with settings := g })))

/-- R168, R169, R170, R184, R195: TAKE_NOTICE with a record stored and with none. That one event
stands for a frame's bytes is the model's choice (notes/assumptions/7.md). -/
def Obligations.TakeNoticeTakesTheOldest : Prop :=
  ∀ s : State, s.FrameOpen →
    let lost : List Byte := [BitVec.ofNat 8 (s.notices.lost / 256), BitVec.ofNat 8 s.notices.lost]
    (s.notices.records = [] → exec .takeNotice s = .next
      { s.replied 1 ([0x00] ++ lost ++ [0, 0, 0, 0, 0, 0, 0, 0, 0, 0, 0, 0, 0, 0, 0]) with
        notices := { s.notices with lost := 0 } }) ∧
    (∀ r rest, s.notices.records = r :: rest → s.notices.attnLow = true →
      exec .takeNotice s = .next
        { s.replied 1 ([0x01] ++ lost ++
            [r.seq.extractLsb' 8 8, r.seq.extractLsb' 0 8, BitVec.ofNat 8 r.notice.kind.code,
             0#3 ++ BitVec.ofBool r.notice.kept.isSome ++ BitVec.ofBool r.notice.chan.isSome ++
               BitVec.ofBool r.notice.hostTag.isSome ++ BitVec.ofBool r.notice.addr.isSome ++
               BitVec.ofBool r.notice.tile.isSome,
             BitVec.ofNat 8 ((r.notice.tile.map fun t => t.val).getD 0)] ++
            bytesBE 5 ((r.notice.addr.map fun a => a.toNat).getD 0) ++
            [BitVec.ofNat 8 ((r.notice.hostTag.map fun t => t.val).getD 0),
             (r.notice.chan.map chanByte).getD 0x00,
             (r.notice.kept.map fun k => k.1).getD 0x00] ++
            bytesBE 2 ((r.notice.kept.map fun k => k.2.toNat).getD 0)) with
          notices := { s.notices with records := rest, lost := 0, attnLow := !rest.isEmpty } })

/-- R175, R178, R185, R104, R109, R199, R202, R204: a long command while another runs is answered
BUSY and ignored; otherwise the first check that fails refuses it, and only the result record
changes. That one event stands for a frame's bytes is the model's choice (notes/assumptions/7.md).
-/
def Obligations.LongCommandIsBusyOrRefused : Prop :=
  ∀ s : State, s.FrameOpen →
    let refused (lc : LongCmd) (why : Reason) : State :=
      { s with port := { s.port with
          frame := some (takenFrame (takenAt lc) [0x03, why.code]),
          result := { command := some lc, outcome := .refused why, changed := 0,
                      unchanged := 0 } } }
    let badRange (f l : Byte) : Prop := ¬ (f.toNat ≤ l.toNat ∧ l.toNat ≤ 127)
    (∀ c lc r, CarriesLong c lc → s.port.running = some r →
      ¬ (lc = .restart ∧ r = .adopt ∧ s.ret.state = .halted) →
      exec c s = .next { s with port := { s.port with
        frame := some { position := 1, decided := true, dataOut := [0x00, 0xB5] } } }) ∧
    (s.port.running = none →
      (∀ o, s.control.mode ≠ .bypass →
        exec (.engage o) s = .next (refused .engage .mode)) ∧
      (∀ o, s.control.mode = .bypass → s.ret.state ≠ .active →
        exec (.engage o) s = .next (refused .engage .state)) ∧
      (∀ o, s.control.mode = .bypass → s.ret.state = .active → o ≠ 0 → o ≠ 1 →
        exec (.engage o) s = .next (refused .engage .range)) ∧
      (s.control.mode ≠ .engaged →
        exec .disengage s = .next (refused .disengage .mode) ∧
        (∀ f l, exec (.discard f l) s = .next (refused .discard .mode) ∧
          exec (.prepare f l) s = .next (refused .prepare .mode) ∧
          exec (.adopt f l) s = .next (refused .adopt .mode))) ∧
      (s.control.mode = .engaged → s.ret.state ≠ .active →
        exec .disengage s = .next (refused .disengage .state) ∧
        ∀ f l, exec (.adopt f l) s = .next (refused .adopt .state)) ∧
      (s.control.mode = .engaged → ∀ f l, badRange f l →
        exec (.discard f l) s = .next (refused .discard .range) ∧
        exec (.prepare f l) s = .next (refused .prepare .range) ∧
        (s.ret.state = .active →
          exec (.adopt f l) s = .next (refused .adopt .range))) ∧
      (s.ret.state ≠ .active → s.ret.state ≠ .halted →
        exec .restart s = .next (refused .restart .state)))

/-! ### Long commands -/

/-- R199, R200, R201, R16: ENGAGE is accepted, its walk claims tile after tile, and its claim on
tile 127 makes the mode ENGAGED, and completes a drain that waited for it (R86). That one event
stands for a frame's bytes is the model's choice (notes/assumptions/7.md). -/
def Obligations.EngageWalksEveryTile : Prop :=
  ∀ s : State,
    (s.FrameOpen → s.port.running = none → s.control.mode = .bypass → s.ret.state = .active →
      (exec (.engage 0) s = .next { s with
        control := { mode := .engaging, walk := some { pos := 0, option := .assumeLive } },
        dispatch := { headClass := none, claim := none },
        port := s.port.accepted .engage none }) ∧
      (exec (.engage 1) s = .next { s with
        control := { mode := .engaging, walk := some { pos := 0, option := .assumeVoid } },
        dispatch := { headClass := none, claim := none },
        port := s.port.accepted .engage none })) ∧
    (∀ w : EngageWalk, s.control.walk = some w → s.tiles[w.pos] = .untracked →
      let claimed := s.tiles.set w.pos
        (if w.option = .assumeLive then TileState.live else TileState.void)
      let counted : ResultRecord := { s.port.result with changed := s.port.result.changed + 1 }
      (w.pos ≠ 127 → exec .engageWalkClaim s = .next { s with
        tiles := claimed,
        control := { s.control with walk := some { w with pos := w.pos + 1 } },
        port := { s.port with result := counted } }) ∧
      (w.pos = 127 →
        let ended : State := { s with
          tiles := claimed,
          control := { mode := .engaged, walk := none },
          port := { s.port with running := none, rangeWalk := none,
                                result := { counted with outcome := .done } } }
        (s.ret.state = .draining → (∀ t : Tag, (s.tags[t]).isInUse = false) →
          exec .engageWalkClaim s = .next ended.completeDrain) ∧
        (s.ret.state ≠ .draining ∨ (∃ t : Tag, (s.tags[t]).isInUse = true) →
          exec .engageWalkClaim s = .next ended)))

/-- R202, R203, R17, R75, R76: DISENGAGE takes FILLING and QUEUED tiles away at its acceptance, with
their channels cancelled, and ends, at once or in DISENGAGE_END, when both channels are IDLE. Its
end as a command of its own, and that one event stands for the frame's bytes, is the model's choice
(notes/assumptions/7.md, 8.md). -/
def Obligations.DisengageReleasesEveryTile : Prop :=
  ∀ s : State,
    (s.FrameOpen → s.port.running = none → s.control.mode = .engaged → s.ret.state = .active →
      let released (r : Channel) : Channel :=
        if r.isFilling then
          { r.leaving (r.inFlight.filter fun e => e.status ≠ .retryWait) with asks := false }
        else { r with asks := false }
      let awaits (r : Channel) : Prop := (released r).state ≠ .idle
      ∃ tiles : Vector TileState 128,
        (∀ t : Tile, tiles[t] =
          match s.tiles[t] with
          | .filling _ => .void
          | .queued => .void
          | x => x) ∧
        (awaits s.chan0 ∨ awaits s.chan1 → exec .disengage s = .next { s with
          control := { s.control with mode := .disengaging },
          dispatch := { headClass := none, claim := none },
          tiles := tiles, fillQueue := [],
          chan0 := released s.chan0, chan1 := released s.chan1,
          port := s.port.accepted .disengage none }) ∧
        (¬ awaits s.chan0 → ¬ awaits s.chan1 → exec .disengage s = .next { s with
          control := { s.control with mode := .bypass },
          dispatch := { headClass := none, claim := none },
          tiles := Vector.replicate 128 .untracked, fillQueue := [],
          chan0 := released s.chan0, chan1 := released s.chan1,
          port := s.port.acceptedDone .disengage })) ∧
    (s.control.mode = .disengaging → s.chan0.state = .idle → s.chan1.state = .idle →
      exec .disengageEnd s = .next s.endDisengage ∧
      let ended : State := { s with
        tiles := Vector.replicate 128 .untracked,
        control := { s.control with mode := .bypass },
        port := { s.port with running := none, rangeWalk := none,
                              result := { s.port.result with outcome := .done } } }
      (s.ret.state = .draining → (∀ t : Tag, (s.tags[t]).isInUse = false) →
        s.endDisengage = ended.completeDrain) ∧
      (s.ret.state ≠ .draining ∨ (∃ t : Tag, (s.tags[t]).isInUse = true) →
        s.endDisengage = ended)) ∧
    (s.control.mode ≠ .disengaging ∨ s.chan0.state ≠ .idle ∨ s.chan1.state ≠ .idle →
      exec .disengageEnd s = .next s)

/-- R204, R206, R25, R18, R78, R107, R134, R173: RESTART flushes the Request Queue ABORTED and, once
no tag is IN_USE, clears the tracking state, in the acceptance event or in RESTART_CLEAR. Its end as
a command of its own, and that one event stands for the frame's bytes, is the model's choice
(notes/assumptions/7.md, 8.md). -/
def Obligations.RestartFlushesAndClears : Prop :=
  ∀ s : State,
    (s.FrameOpen → s.host.owed = 0 →
      s.port.running = none ∨ (s.port.running = some .adopt ∧ s.ret.state = .halted) →
      s.ret.state = .active ∨ s.ret.state = .halted →
      let stopped : State := { s with
        control := { mode := .restarting, walk := none },
        dispatch := { headClass := none, claim := none },
        requests := [],
        chan0 := { s.chan0 with asks := false }, chan1 := { s.chan1 with asks := false },
        host := { s.host with
          balance := s.host.balance + s.requests.length,
          outstanding := s.requests.foldl (fun o r => dropTag o r.tag) s.host.outstanding,
          sent := s.host.sent ++ (s.requests.map fun r => .response r.tag .aborted none) ++
            (if s.requests = [] then [] else [.credit s.requests.length]) } }
      ((∃ t : Tag, (s.tags[t]).isInUse = true) →
        exec .restart s = .next { stopped with port := s.port.accepted .restart none }) ∧
      ((∀ t : Tag, (s.tags[t]).isInUse = false) →
        exec .restart s = .next { stopped.clear with port := s.port.acceptedDone .restart })) ∧
    (s.control.mode = .restarting → (∀ t : Tag, (s.tags[t]).isInUse = false) →
      exec .restartClear s = .next s.clear) ∧
    (s.control.mode ≠ .restarting ∨ (∃ t : Tag, (s.tags[t]).isInUse = true) →
      exec .restartClear s = .next s) ∧
    (let idle : Channel := { state := .idle, cursor := 0, paused := false, skip := [],
                             inFlight := [], asks := false }
     let cleared : State := { s with
      tiles := Vector.replicate 128 .untracked,
      chan0 := idle, chan1 := idle, fillQueue := [],
      link := { s.link with fillPass := 0, lastGranted := .ch1 },
      ret := { state := .active, releaseNeeded := false, pendingWake := false, exitAttempts := 0,
               keptLanes := 0xFF, keptBands := 0xFFFF, deadline := none, slpAck := false },
      notices := { s.notices with records := [], lost := 0, attnLow := false },
      control := { mode := .bypass, walk := none },
      port := { s.port with running := none, rangeWalk := none,
                            result := { s.port.result with outcome := .done } } }
     (s.pins.slpReqHigh = false → s.clear = cleared) ∧
     (s.pins.slpReqHigh = true → s.pins.inReset = false → s.clear = { cleared with
        chan0 := { idle with paused := true }, chan1 := { idle with paused := true },
        dispatch := { headClass := none, claim := none },
        ret := { cleared.ret with state := .draining } }))

/-- R109, R110, R111, R112, R119, R187, R105: a range command in ENGAGED whose range is valid is
accepted, ADOPT in ACTIVE only, with its walk at the first tile and no tile changed; each claim
counts one tile, changed where the claim changed its record and unchanged where it did not, and the
walk goes on to the next tile, or is DONE after its last; a held ADOPT makes no claim, and a PREPARE
makes none while a take is due, whatever brought the take about (notes/assumptions/26.md). That one
event stands for a frame's bytes is the model's choice (notes/assumptions/7.md). -/
def Obligations.RangeCommandWalksItsRange : Prop :=
  ∀ s : State,
    (∀ first last : Tile, s.FrameOpen → s.port.running = none →
      s.control.mode = .engaged → first ≤ last →
      let f : Byte := BitVec.ofNat 8 first.val
      let l : Byte := BitVec.ofNat 8 last.val
      let w : RangeWalk := { next := first, last := last }
      exec (.discard f l) s = .next { s with port := s.port.accepted .discard (some w) } ∧
      exec (.prepare f l) s = .next { s with port := s.port.accepted .prepare (some w) } ∧
      (s.ret.state = .active →
        exec (.adopt f l) s = .next { s with port := s.port.accepted .adopt (some w) })) ∧
    (∀ (w : RangeWalk) (c : Instr) (t : State), s.Walks c w → exec c s = .next t →
      (t.tiles[w.next] ≠ s.tiles[w.next] →
        t.port.result.changed = s.port.result.changed + 1 ∧
        t.port.result.unchanged = s.port.result.unchanged) ∧
      (t.tiles[w.next] = s.tiles[w.next] →
        t.port.result.changed = s.port.result.changed ∧
        t.port.result.unchanged = s.port.result.unchanged + 1) ∧
      t.port.result.command = s.port.result.command ∧
      (w.next ≠ w.last →
        t.port.rangeWalk = some { next := w.next + 1, last := w.last } ∧
        t.port.running = s.port.running ∧ t.port.result.outcome = s.port.result.outcome) ∧
      (w.next = w.last →
        t.port.rangeWalk = none ∧ t.port.running = none ∧ t.port.result.outcome = .done)) ∧
    (s.port.running = some .adopt →
      s.ret.state = .entering ∨ s.ret.state = .retained ∨ s.ret.state = .exiting ∨
        s.ret.state = .halted →
      exec .adoptClaim s = .next s) ∧
    (∀ (c : Chan) (t : Tile) (rest : List Tile), s.port.running = some .prepare →
      s.fillQueue = t :: rest → s.tiles[t] = .queued → s.control.mode ≠ .restarting →
      (s.chan c).state = .idle → (s.chan c).paused = false → exec .prepareClaim s = .next s)

/-- R13, R14, R112, R119, R121, R76: what a discard, a prepare and an adopt claim do by the state
they find: a claim that changes its tile raises the changed count, any other the unchanged count. The
walk then stands at the next tile, or the command is DONE (R111). A prepare claim comes once no take
is due (notes/assumptions/26.md). -/
def Obligations.RangeClaimsActByTheStateFound : Prop :=
  ∀ (s : State) (w : RangeWalk),
    let t := w.next
    let counted (r : ResultRecord) : MgmtPort :=
      if w.next = w.last then
        { s.port with running := none, rangeWalk := none, result := { r with outcome := .done } }
      else { s.port with rangeWalk := some { next := w.next + 1, last := w.last }, result := r }
    let changed : MgmtPort :=
      counted { s.port.result with changed := s.port.result.changed + 1 }
    let unchanged : MgmtPort :=
      counted { s.port.result with unchanged := s.port.result.unchanged + 1 }
    (s.Walks .discardClaim w →
      (s.tiles[t] = .live → exec .discardClaim s = .next
        { s with tiles := s.tiles.set t .discarded, port := changed }) ∧
      (s.tiles[t] = .queued → s.fillQueue.Nodup → exec .discardClaim s = .next
        { s with tiles := s.tiles.set t .void, port := changed,
                 fillQueue := s.fillQueue.filter fun x => x ≠ t }) ∧
      (∀ c, s.tiles[t] = .filling c → exec .discardClaim s = .next
        ({ s with tiles := s.tiles.set t .void, port := changed }.setChan c
          ((s.chan c).leaving
            ((s.chan c).inFlight.filter fun e => e.status ≠ FlightStatus.retryWait)))) ∧
      (s.tiles[t] = .failed → exec .discardClaim s = .next
        { s with tiles := s.tiles.set t .void, port := changed }) ∧
      (s.tiles[t] = .void ∨ s.tiles[t] = .discarded → exec .discardClaim s = .next
        { s with port := unchanged })) ∧
    (s.Walks .prepareClaim w →
      (s.tiles[t] = .void → exec .prepareClaim s = .next
        { s with tiles := s.tiles.set t .queued, fillQueue := s.fillQueue ++ [t],
                 port := changed }) ∧
      (s.tiles[t] ≠ .void → exec .prepareClaim s = .next { s with port := unchanged })) ∧
    (s.Walks .adoptClaim w →
      (s.tiles[t] = .void ∨ s.tiles[t] = .discarded → exec .adoptClaim s = .next
        { s with tiles := s.tiles.set t .live, port := changed }) ∧
      (s.tiles[t] = .queued → s.fillQueue.Nodup → exec .adoptClaim s = .next
        { s with tiles := s.tiles.set t .live, port := changed,
                 fillQueue := s.fillQueue.filter fun x => x ≠ t }) ∧
      (s.tiles[t] = .live ∨ s.tiles[t] = .failed ∨ (∃ c, s.tiles[t] = .filling c) →
        exec .adoptClaim s = .next { s with port := unchanged }))
end

