-- ==== Sys2Proof/Laws/State.lean ====
section
/-! SUPPORT. What each shared operation leaves of each field of the state, so that no later proof
unfolds a record update: one lemma per operation and field it does not write, and for the written
fields what they become. -/

namespace Sys2Proof.Machine

/-! ### Fields an operation does not write -/

/-! #### setTile -/

@[simp] theorem State.setTile_pins (s : State) (t : Tile) (x : TileState) :
    (s.setTile t x).pins = s.pins := rfl
@[simp] theorem State.setTile_now (s : State) (t : Tile) (x : TileState) :
    (s.setTile t x).now = s.now := rfl
@[simp] theorem State.setTile_requests (s : State) (t : Tile) (x : TileState) :
    (s.setTile t x).requests = s.requests := rfl
@[simp] theorem State.setTile_dispatch (s : State) (t : Tile) (x : TileState) :
    (s.setTile t x).dispatch = s.dispatch := rfl
@[simp] theorem State.setTile_chan0 (s : State) (t : Tile) (x : TileState) :
    (s.setTile t x).chan0 = s.chan0 := rfl
@[simp] theorem State.setTile_chan1 (s : State) (t : Tile) (x : TileState) :
    (s.setTile t x).chan1 = s.chan1 := rfl
@[simp] theorem State.setTile_fillQueue (s : State) (t : Tile) (x : TileState) :
    (s.setTile t x).fillQueue = s.fillQueue := rfl
@[simp] theorem State.setTile_host (s : State) (t : Tile) (x : TileState) :
    (s.setTile t x).host = s.host := rfl
@[simp] theorem State.setTile_link (s : State) (t : Tile) (x : TileState) :
    (s.setTile t x).link = s.link := rfl
@[simp] theorem State.setTile_tags (s : State) (t : Tile) (x : TileState) :
    (s.setTile t x).tags = s.tags := rfl
@[simp] theorem State.setTile_ret (s : State) (t : Tile) (x : TileState) :
    (s.setTile t x).ret = s.ret := rfl
@[simp] theorem State.setTile_notices (s : State) (t : Tile) (x : TileState) :
    (s.setTile t x).notices = s.notices := rfl
@[simp] theorem State.setTile_port (s : State) (t : Tile) (x : TileState) :
    (s.setTile t x).port = s.port := rfl
@[simp] theorem State.setTile_control (s : State) (t : Tile) (x : TileState) :
    (s.setTile t x).control = s.control := rfl
@[simp] theorem State.setTile_settings (s : State) (t : Tile) (x : TileState) :
    (s.setTile t x).settings = s.settings := rfl
@[simp] theorem State.setTile_pending (s : State) (t : Tile) (x : TileState) :
    (s.setTile t x).pending = s.pending := rfl
@[simp] theorem State.setTile_chan (s : State) (t : Tile) (x : TileState) (k : Chan) :
    (s.setTile t x).chan k = s.chan k := by cases k <;> simp [State.chan]

/-! #### setTag -/

@[simp] theorem State.setTag_pins (s : State) (t : Tag) (e : TagEntry) :
    (s.setTag t e).pins = s.pins := rfl
@[simp] theorem State.setTag_now (s : State) (t : Tag) (e : TagEntry) :
    (s.setTag t e).now = s.now := rfl
@[simp] theorem State.setTag_tiles (s : State) (t : Tag) (e : TagEntry) :
    (s.setTag t e).tiles = s.tiles := rfl
@[simp] theorem State.setTag_requests (s : State) (t : Tag) (e : TagEntry) :
    (s.setTag t e).requests = s.requests := rfl
@[simp] theorem State.setTag_dispatch (s : State) (t : Tag) (e : TagEntry) :
    (s.setTag t e).dispatch = s.dispatch := rfl
@[simp] theorem State.setTag_chan0 (s : State) (t : Tag) (e : TagEntry) :
    (s.setTag t e).chan0 = s.chan0 := rfl
@[simp] theorem State.setTag_chan1 (s : State) (t : Tag) (e : TagEntry) :
    (s.setTag t e).chan1 = s.chan1 := rfl
@[simp] theorem State.setTag_fillQueue (s : State) (t : Tag) (e : TagEntry) :
    (s.setTag t e).fillQueue = s.fillQueue := rfl
@[simp] theorem State.setTag_host (s : State) (t : Tag) (e : TagEntry) :
    (s.setTag t e).host = s.host := rfl
@[simp] theorem State.setTag_link (s : State) (t : Tag) (e : TagEntry) :
    (s.setTag t e).link = s.link := rfl
@[simp] theorem State.setTag_ret (s : State) (t : Tag) (e : TagEntry) :
    (s.setTag t e).ret = s.ret := rfl
@[simp] theorem State.setTag_notices (s : State) (t : Tag) (e : TagEntry) :
    (s.setTag t e).notices = s.notices := rfl
@[simp] theorem State.setTag_port (s : State) (t : Tag) (e : TagEntry) :
    (s.setTag t e).port = s.port := rfl
@[simp] theorem State.setTag_control (s : State) (t : Tag) (e : TagEntry) :
    (s.setTag t e).control = s.control := rfl
@[simp] theorem State.setTag_settings (s : State) (t : Tag) (e : TagEntry) :
    (s.setTag t e).settings = s.settings := rfl
@[simp] theorem State.setTag_pending (s : State) (t : Tag) (e : TagEntry) :
    (s.setTag t e).pending = s.pending := rfl
@[simp] theorem State.setTag_chan (s : State) (t : Tag) (e : TagEntry) (k : Chan) :
    (s.setTag t e).chan k = s.chan k := by cases k <;> simp [State.chan]

/-! #### setChan -/

@[simp] theorem State.setChan_pins (s : State) (c : Chan) (r : Channel) :
    (s.setChan c r).pins = s.pins := by cases c <;> rfl
@[simp] theorem State.setChan_now (s : State) (c : Chan) (r : Channel) :
    (s.setChan c r).now = s.now := by cases c <;> rfl
@[simp] theorem State.setChan_tiles (s : State) (c : Chan) (r : Channel) :
    (s.setChan c r).tiles = s.tiles := by cases c <;> rfl
@[simp] theorem State.setChan_requests (s : State) (c : Chan) (r : Channel) :
    (s.setChan c r).requests = s.requests := by cases c <;> rfl
@[simp] theorem State.setChan_dispatch (s : State) (c : Chan) (r : Channel) :
    (s.setChan c r).dispatch = s.dispatch := by cases c <;> rfl
@[simp] theorem State.setChan_fillQueue (s : State) (c : Chan) (r : Channel) :
    (s.setChan c r).fillQueue = s.fillQueue := by cases c <;> rfl
@[simp] theorem State.setChan_host (s : State) (c : Chan) (r : Channel) :
    (s.setChan c r).host = s.host := by cases c <;> rfl
@[simp] theorem State.setChan_link (s : State) (c : Chan) (r : Channel) :
    (s.setChan c r).link = s.link := by cases c <;> rfl
@[simp] theorem State.setChan_tags (s : State) (c : Chan) (r : Channel) :
    (s.setChan c r).tags = s.tags := by cases c <;> rfl
@[simp] theorem State.setChan_ret (s : State) (c : Chan) (r : Channel) :
    (s.setChan c r).ret = s.ret := by cases c <;> rfl
@[simp] theorem State.setChan_notices (s : State) (c : Chan) (r : Channel) :
    (s.setChan c r).notices = s.notices := by cases c <;> rfl
@[simp] theorem State.setChan_port (s : State) (c : Chan) (r : Channel) :
    (s.setChan c r).port = s.port := by cases c <;> rfl
@[simp] theorem State.setChan_control (s : State) (c : Chan) (r : Channel) :
    (s.setChan c r).control = s.control := by cases c <;> rfl
@[simp] theorem State.setChan_settings (s : State) (c : Chan) (r : Channel) :
    (s.setChan c r).settings = s.settings := by cases c <;> rfl
@[simp] theorem State.setChan_pending (s : State) (c : Chan) (r : Channel) :
    (s.setChan c r).pending = s.pending := by cases c <;> rfl

/-! #### examineChans -/

@[simp] theorem State.examineChans_pins (s : State) :
    (s.examineChans).pins = s.pins := rfl
@[simp] theorem State.examineChans_now (s : State) :
    (s.examineChans).now = s.now := rfl
@[simp] theorem State.examineChans_tiles (s : State) :
    (s.examineChans).tiles = s.tiles := rfl
@[simp] theorem State.examineChans_requests (s : State) :
    (s.examineChans).requests = s.requests := rfl
@[simp] theorem State.examineChans_dispatch (s : State) :
    (s.examineChans).dispatch = s.dispatch := rfl
@[simp] theorem State.examineChans_fillQueue (s : State) :
    (s.examineChans).fillQueue = s.fillQueue := rfl
@[simp] theorem State.examineChans_host (s : State) :
    (s.examineChans).host = s.host := rfl
@[simp] theorem State.examineChans_link (s : State) :
    (s.examineChans).link = s.link := rfl
@[simp] theorem State.examineChans_tags (s : State) :
    (s.examineChans).tags = s.tags := rfl
@[simp] theorem State.examineChans_ret (s : State) :
    (s.examineChans).ret = s.ret := rfl
@[simp] theorem State.examineChans_notices (s : State) :
    (s.examineChans).notices = s.notices := rfl
@[simp] theorem State.examineChans_port (s : State) :
    (s.examineChans).port = s.port := rfl
@[simp] theorem State.examineChans_control (s : State) :
    (s.examineChans).control = s.control := rfl
@[simp] theorem State.examineChans_settings (s : State) :
    (s.examineChans).settings = s.settings := rfl
@[simp] theorem State.examineChans_pending (s : State) :
    (s.examineChans).pending = s.pending := rfl

/-! #### setPaused -/

@[simp] theorem State.setPaused_pins (s : State) (b : Bool) :
    (s.setPaused b).pins = s.pins := rfl
@[simp] theorem State.setPaused_now (s : State) (b : Bool) :
    (s.setPaused b).now = s.now := rfl
@[simp] theorem State.setPaused_tiles (s : State) (b : Bool) :
    (s.setPaused b).tiles = s.tiles := rfl
@[simp] theorem State.setPaused_requests (s : State) (b : Bool) :
    (s.setPaused b).requests = s.requests := rfl
@[simp] theorem State.setPaused_dispatch (s : State) (b : Bool) :
    (s.setPaused b).dispatch = s.dispatch := rfl
@[simp] theorem State.setPaused_fillQueue (s : State) (b : Bool) :
    (s.setPaused b).fillQueue = s.fillQueue := rfl
@[simp] theorem State.setPaused_host (s : State) (b : Bool) :
    (s.setPaused b).host = s.host := rfl
@[simp] theorem State.setPaused_link (s : State) (b : Bool) :
    (s.setPaused b).link = s.link := rfl
@[simp] theorem State.setPaused_tags (s : State) (b : Bool) :
    (s.setPaused b).tags = s.tags := rfl
@[simp] theorem State.setPaused_ret (s : State) (b : Bool) :
    (s.setPaused b).ret = s.ret := rfl
@[simp] theorem State.setPaused_notices (s : State) (b : Bool) :
    (s.setPaused b).notices = s.notices := rfl
@[simp] theorem State.setPaused_port (s : State) (b : Bool) :
    (s.setPaused b).port = s.port := rfl
@[simp] theorem State.setPaused_control (s : State) (b : Bool) :
    (s.setPaused b).control = s.control := rfl
@[simp] theorem State.setPaused_settings (s : State) (b : Bool) :
    (s.setPaused b).settings = s.settings := rfl
@[simp] theorem State.setPaused_pending (s : State) (b : Bool) :
    (s.setPaused b).pending = s.pending := rfl

/-! #### dropHead -/

@[simp] theorem State.dropHead_pins (s : State) :
    (s.dropHead).pins = s.pins := rfl
@[simp] theorem State.dropHead_now (s : State) :
    (s.dropHead).now = s.now := rfl
@[simp] theorem State.dropHead_tiles (s : State) :
    (s.dropHead).tiles = s.tiles := rfl
@[simp] theorem State.dropHead_requests (s : State) :
    (s.dropHead).requests = s.requests := rfl
@[simp] theorem State.dropHead_chan0 (s : State) :
    (s.dropHead).chan0 = s.chan0 := rfl
@[simp] theorem State.dropHead_chan1 (s : State) :
    (s.dropHead).chan1 = s.chan1 := rfl
@[simp] theorem State.dropHead_fillQueue (s : State) :
    (s.dropHead).fillQueue = s.fillQueue := rfl
@[simp] theorem State.dropHead_host (s : State) :
    (s.dropHead).host = s.host := rfl
@[simp] theorem State.dropHead_link (s : State) :
    (s.dropHead).link = s.link := rfl
@[simp] theorem State.dropHead_tags (s : State) :
    (s.dropHead).tags = s.tags := rfl
@[simp] theorem State.dropHead_ret (s : State) :
    (s.dropHead).ret = s.ret := rfl
@[simp] theorem State.dropHead_notices (s : State) :
    (s.dropHead).notices = s.notices := rfl
@[simp] theorem State.dropHead_port (s : State) :
    (s.dropHead).port = s.port := rfl
@[simp] theorem State.dropHead_control (s : State) :
    (s.dropHead).control = s.control := rfl
@[simp] theorem State.dropHead_settings (s : State) :
    (s.dropHead).settings = s.settings := rfl
@[simp] theorem State.dropHead_pending (s : State) :
    (s.dropHead).pending = s.pending := rfl
@[simp] theorem State.dropHead_chan (s : State) (k : Chan) :
    (s.dropHead).chan k = s.chan k := by cases k <;> simp [State.chan]

/-! #### setHead -/

@[simp] theorem State.setHead_pins (s : State) (h : HeadClass) :
    (s.setHead h).pins = s.pins := rfl
@[simp] theorem State.setHead_now (s : State) (h : HeadClass) :
    (s.setHead h).now = s.now := rfl
@[simp] theorem State.setHead_tiles (s : State) (h : HeadClass) :
    (s.setHead h).tiles = s.tiles := rfl
@[simp] theorem State.setHead_requests (s : State) (h : HeadClass) :
    (s.setHead h).requests = s.requests := rfl
@[simp] theorem State.setHead_chan0 (s : State) (h : HeadClass) :
    (s.setHead h).chan0 = s.chan0 := rfl
@[simp] theorem State.setHead_chan1 (s : State) (h : HeadClass) :
    (s.setHead h).chan1 = s.chan1 := rfl
@[simp] theorem State.setHead_fillQueue (s : State) (h : HeadClass) :
    (s.setHead h).fillQueue = s.fillQueue := rfl
@[simp] theorem State.setHead_host (s : State) (h : HeadClass) :
    (s.setHead h).host = s.host := rfl
@[simp] theorem State.setHead_link (s : State) (h : HeadClass) :
    (s.setHead h).link = s.link := rfl
@[simp] theorem State.setHead_tags (s : State) (h : HeadClass) :
    (s.setHead h).tags = s.tags := rfl
@[simp] theorem State.setHead_ret (s : State) (h : HeadClass) :
    (s.setHead h).ret = s.ret := rfl
@[simp] theorem State.setHead_notices (s : State) (h : HeadClass) :
    (s.setHead h).notices = s.notices := rfl
@[simp] theorem State.setHead_port (s : State) (h : HeadClass) :
    (s.setHead h).port = s.port := rfl
@[simp] theorem State.setHead_control (s : State) (h : HeadClass) :
    (s.setHead h).control = s.control := rfl
@[simp] theorem State.setHead_settings (s : State) (h : HeadClass) :
    (s.setHead h).settings = s.settings := rfl
@[simp] theorem State.setHead_pending (s : State) (h : HeadClass) :
    (s.setHead h).pending = s.pending := rfl
@[simp] theorem State.setHead_chan (s : State) (h : HeadClass) (k : Chan) :
    (s.setHead h).chan k = s.chan k := by cases k <;> simp [State.chan]

/-! #### reach -/

@[simp] theorem State.reach_pins (s : State) (d : Micros) :
    (s.reach d).pins = s.pins := rfl
@[simp] theorem State.reach_tiles (s : State) (d : Micros) :
    (s.reach d).tiles = s.tiles := rfl
@[simp] theorem State.reach_requests (s : State) (d : Micros) :
    (s.reach d).requests = s.requests := rfl
@[simp] theorem State.reach_dispatch (s : State) (d : Micros) :
    (s.reach d).dispatch = s.dispatch := rfl
@[simp] theorem State.reach_chan0 (s : State) (d : Micros) :
    (s.reach d).chan0 = s.chan0 := rfl
@[simp] theorem State.reach_chan1 (s : State) (d : Micros) :
    (s.reach d).chan1 = s.chan1 := rfl
@[simp] theorem State.reach_fillQueue (s : State) (d : Micros) :
    (s.reach d).fillQueue = s.fillQueue := rfl
@[simp] theorem State.reach_host (s : State) (d : Micros) :
    (s.reach d).host = s.host := rfl
@[simp] theorem State.reach_link (s : State) (d : Micros) :
    (s.reach d).link = s.link := rfl
@[simp] theorem State.reach_tags (s : State) (d : Micros) :
    (s.reach d).tags = s.tags := rfl
@[simp] theorem State.reach_ret (s : State) (d : Micros) :
    (s.reach d).ret = s.ret := rfl
@[simp] theorem State.reach_notices (s : State) (d : Micros) :
    (s.reach d).notices = s.notices := rfl
@[simp] theorem State.reach_port (s : State) (d : Micros) :
    (s.reach d).port = s.port := rfl
@[simp] theorem State.reach_control (s : State) (d : Micros) :
    (s.reach d).control = s.control := rfl
@[simp] theorem State.reach_settings (s : State) (d : Micros) :
    (s.reach d).settings = s.settings := rfl
@[simp] theorem State.reach_pending (s : State) (d : Micros) :
    (s.reach d).pending = s.pending := rfl
@[simp] theorem State.reach_chan (s : State) (d : Micros) (k : Chan) :
    (s.reach d).chan k = s.chan k := by cases k <;> simp [State.chan]

/-! #### tick -/

@[simp] theorem State.tick_pins (s : State) :
    s.tick.pins = s.pins := rfl
@[simp] theorem State.tick_tiles (s : State) :
    s.tick.tiles = s.tiles := rfl
@[simp] theorem State.tick_requests (s : State) :
    s.tick.requests = s.requests := rfl
@[simp] theorem State.tick_dispatch (s : State) :
    s.tick.dispatch = s.dispatch := rfl
@[simp] theorem State.tick_chan0 (s : State) :
    s.tick.chan0 = s.chan0 := rfl
@[simp] theorem State.tick_chan1 (s : State) :
    s.tick.chan1 = s.chan1 := rfl
@[simp] theorem State.tick_fillQueue (s : State) :
    s.tick.fillQueue = s.fillQueue := rfl
@[simp] theorem State.tick_host (s : State) :
    s.tick.host = s.host := rfl
@[simp] theorem State.tick_link (s : State) :
    s.tick.link = s.link := rfl
@[simp] theorem State.tick_tags (s : State) :
    s.tick.tags = s.tags := rfl
@[simp] theorem State.tick_ret (s : State) :
    s.tick.ret = s.ret := rfl
@[simp] theorem State.tick_notices (s : State) :
    s.tick.notices = s.notices := rfl
@[simp] theorem State.tick_port (s : State) :
    s.tick.port = s.port := rfl
@[simp] theorem State.tick_control (s : State) :
    s.tick.control = s.control := rfl
@[simp] theorem State.tick_settings (s : State) :
    s.tick.settings = s.settings := rfl
@[simp] theorem State.tick_pending (s : State) :
    s.tick.pending = s.pending := rfl
@[simp] theorem State.tick_chan (s : State) (k : Chan) :
    s.tick.chan k = s.chan k := by cases k <;> simp [State.chan]

/-! #### post -/

@[simp] theorem State.post_pins (s : State) (n : Notice) :
    (s.post n).pins = s.pins := rfl
@[simp] theorem State.post_now (s : State) (n : Notice) :
    (s.post n).now = s.now := rfl
@[simp] theorem State.post_tiles (s : State) (n : Notice) :
    (s.post n).tiles = s.tiles := rfl
@[simp] theorem State.post_requests (s : State) (n : Notice) :
    (s.post n).requests = s.requests := rfl
@[simp] theorem State.post_dispatch (s : State) (n : Notice) :
    (s.post n).dispatch = s.dispatch := rfl
@[simp] theorem State.post_chan0 (s : State) (n : Notice) :
    (s.post n).chan0 = s.chan0 := rfl
@[simp] theorem State.post_chan1 (s : State) (n : Notice) :
    (s.post n).chan1 = s.chan1 := rfl
@[simp] theorem State.post_fillQueue (s : State) (n : Notice) :
    (s.post n).fillQueue = s.fillQueue := rfl
@[simp] theorem State.post_host (s : State) (n : Notice) :
    (s.post n).host = s.host := rfl
@[simp] theorem State.post_link (s : State) (n : Notice) :
    (s.post n).link = s.link := rfl
@[simp] theorem State.post_tags (s : State) (n : Notice) :
    (s.post n).tags = s.tags := rfl
@[simp] theorem State.post_ret (s : State) (n : Notice) :
    (s.post n).ret = s.ret := rfl
@[simp] theorem State.post_port (s : State) (n : Notice) :
    (s.post n).port = s.port := rfl
@[simp] theorem State.post_control (s : State) (n : Notice) :
    (s.post n).control = s.control := rfl
@[simp] theorem State.post_settings (s : State) (n : Notice) :
    (s.post n).settings = s.settings := rfl
@[simp] theorem State.post_pending (s : State) (n : Notice) :
    (s.post n).pending = s.pending := rfl
@[simp] theorem State.post_chan (s : State) (n : Notice) (k : Chan) :
    (s.post n).chan k = s.chan k := by cases k <;> simp [State.chan]

/-! #### respond -/

@[simp] theorem State.respond_pins (s : State) (t : HostTag) (st : HostStatus) (d : Option Burst) :
    (s.respond t st d).pins = s.pins := rfl
@[simp] theorem State.respond_now (s : State) (t : HostTag) (st : HostStatus) (d : Option Burst) :
    (s.respond t st d).now = s.now := rfl
@[simp] theorem State.respond_tiles (s : State) (t : HostTag) (st : HostStatus) (d : Option Burst) :
    (s.respond t st d).tiles = s.tiles := rfl
@[simp] theorem State.respond_requests (s : State) (t : HostTag) (st : HostStatus) (d : Option Burst) :
    (s.respond t st d).requests = s.requests := rfl
@[simp] theorem State.respond_dispatch (s : State) (t : HostTag) (st : HostStatus) (d : Option Burst) :
    (s.respond t st d).dispatch = s.dispatch := rfl
@[simp] theorem State.respond_chan0 (s : State) (t : HostTag) (st : HostStatus) (d : Option Burst) :
    (s.respond t st d).chan0 = s.chan0 := rfl
@[simp] theorem State.respond_chan1 (s : State) (t : HostTag) (st : HostStatus) (d : Option Burst) :
    (s.respond t st d).chan1 = s.chan1 := rfl
@[simp] theorem State.respond_fillQueue (s : State) (t : HostTag) (st : HostStatus) (d : Option Burst) :
    (s.respond t st d).fillQueue = s.fillQueue := rfl
@[simp] theorem State.respond_link (s : State) (t : HostTag) (st : HostStatus) (d : Option Burst) :
    (s.respond t st d).link = s.link := rfl
@[simp] theorem State.respond_tags (s : State) (t : HostTag) (st : HostStatus) (d : Option Burst) :
    (s.respond t st d).tags = s.tags := rfl
@[simp] theorem State.respond_ret (s : State) (t : HostTag) (st : HostStatus) (d : Option Burst) :
    (s.respond t st d).ret = s.ret := rfl
@[simp] theorem State.respond_notices (s : State) (t : HostTag) (st : HostStatus) (d : Option Burst) :
    (s.respond t st d).notices = s.notices := rfl
@[simp] theorem State.respond_port (s : State) (t : HostTag) (st : HostStatus) (d : Option Burst) :
    (s.respond t st d).port = s.port := rfl
@[simp] theorem State.respond_control (s : State) (t : HostTag) (st : HostStatus) (d : Option Burst) :
    (s.respond t st d).control = s.control := rfl
@[simp] theorem State.respond_settings (s : State) (t : HostTag) (st : HostStatus) (d : Option Burst) :
    (s.respond t st d).settings = s.settings := rfl
@[simp] theorem State.respond_pending (s : State) (t : HostTag) (st : HostStatus) (d : Option Burst) :
    (s.respond t st d).pending = s.pending := rfl
@[simp] theorem State.respond_chan (s : State) (t : HostTag) (st : HostStatus) (d : Option Burst) (k : Chan) :
    (s.respond t st d).chan k = s.chan k := by cases k <;> simp [State.chan]

/-! #### returnCredits -/

@[simp] theorem State.returnCredits_pins (s : State) (n : Nat) :
    (s.returnCredits n).pins = s.pins := rfl
@[simp] theorem State.returnCredits_now (s : State) (n : Nat) :
    (s.returnCredits n).now = s.now := rfl
@[simp] theorem State.returnCredits_tiles (s : State) (n : Nat) :
    (s.returnCredits n).tiles = s.tiles := rfl
@[simp] theorem State.returnCredits_requests (s : State) (n : Nat) :
    (s.returnCredits n).requests = s.requests := rfl
@[simp] theorem State.returnCredits_dispatch (s : State) (n : Nat) :
    (s.returnCredits n).dispatch = s.dispatch := rfl
@[simp] theorem State.returnCredits_chan0 (s : State) (n : Nat) :
    (s.returnCredits n).chan0 = s.chan0 := rfl
@[simp] theorem State.returnCredits_chan1 (s : State) (n : Nat) :
    (s.returnCredits n).chan1 = s.chan1 := rfl
@[simp] theorem State.returnCredits_fillQueue (s : State) (n : Nat) :
    (s.returnCredits n).fillQueue = s.fillQueue := rfl
@[simp] theorem State.returnCredits_link (s : State) (n : Nat) :
    (s.returnCredits n).link = s.link := rfl
@[simp] theorem State.returnCredits_tags (s : State) (n : Nat) :
    (s.returnCredits n).tags = s.tags := rfl
@[simp] theorem State.returnCredits_ret (s : State) (n : Nat) :
    (s.returnCredits n).ret = s.ret := rfl
@[simp] theorem State.returnCredits_notices (s : State) (n : Nat) :
    (s.returnCredits n).notices = s.notices := rfl
@[simp] theorem State.returnCredits_port (s : State) (n : Nat) :
    (s.returnCredits n).port = s.port := rfl
@[simp] theorem State.returnCredits_control (s : State) (n : Nat) :
    (s.returnCredits n).control = s.control := rfl
@[simp] theorem State.returnCredits_settings (s : State) (n : Nat) :
    (s.returnCredits n).settings = s.settings := rfl
@[simp] theorem State.returnCredits_pending (s : State) (n : Nat) :
    (s.returnCredits n).pending = s.pending := rfl
@[simp] theorem State.returnCredits_chan (s : State) (n : Nat) (k : Chan) :
    (s.returnCredits n).chan k = s.chan k := by cases k <;> simp [State.chan]

/-! #### popHead -/

@[simp] theorem State.popHead_pins (s : State) :
    (s.popHead).pins = s.pins := rfl
@[simp] theorem State.popHead_now (s : State) :
    (s.popHead).now = s.now := rfl
@[simp] theorem State.popHead_tiles (s : State) :
    (s.popHead).tiles = s.tiles := rfl
@[simp] theorem State.popHead_chan0 (s : State) :
    (s.popHead).chan0 = s.chan0 := rfl
@[simp] theorem State.popHead_chan1 (s : State) :
    (s.popHead).chan1 = s.chan1 := rfl
@[simp] theorem State.popHead_fillQueue (s : State) :
    (s.popHead).fillQueue = s.fillQueue := rfl
@[simp] theorem State.popHead_host (s : State) :
    (s.popHead).host = s.host := rfl
@[simp] theorem State.popHead_link (s : State) :
    (s.popHead).link = s.link := rfl
@[simp] theorem State.popHead_tags (s : State) :
    (s.popHead).tags = s.tags := rfl
@[simp] theorem State.popHead_ret (s : State) :
    (s.popHead).ret = s.ret := rfl
@[simp] theorem State.popHead_notices (s : State) :
    (s.popHead).notices = s.notices := rfl
@[simp] theorem State.popHead_port (s : State) :
    (s.popHead).port = s.port := rfl
@[simp] theorem State.popHead_control (s : State) :
    (s.popHead).control = s.control := rfl
@[simp] theorem State.popHead_settings (s : State) :
    (s.popHead).settings = s.settings := rfl
@[simp] theorem State.popHead_pending (s : State) :
    (s.popHead).pending = s.pending := rfl
@[simp] theorem State.popHead_chan (s : State) (k : Chan) :
    (s.popHead).chan k = s.chan k := by cases k <;> simp [State.chan]

/-! #### direct -/

@[simp] theorem State.direct_pins (s : State) (m : MemMsg) :
    (s.direct m).pins = s.pins := rfl
@[simp] theorem State.direct_now (s : State) (m : MemMsg) :
    (s.direct m).now = s.now := rfl
@[simp] theorem State.direct_tiles (s : State) (m : MemMsg) :
    (s.direct m).tiles = s.tiles := rfl
@[simp] theorem State.direct_requests (s : State) (m : MemMsg) :
    (s.direct m).requests = s.requests := rfl
@[simp] theorem State.direct_dispatch (s : State) (m : MemMsg) :
    (s.direct m).dispatch = s.dispatch := rfl
@[simp] theorem State.direct_chan0 (s : State) (m : MemMsg) :
    (s.direct m).chan0 = s.chan0 := rfl
@[simp] theorem State.direct_chan1 (s : State) (m : MemMsg) :
    (s.direct m).chan1 = s.chan1 := rfl
@[simp] theorem State.direct_fillQueue (s : State) (m : MemMsg) :
    (s.direct m).fillQueue = s.fillQueue := rfl
@[simp] theorem State.direct_host (s : State) (m : MemMsg) :
    (s.direct m).host = s.host := rfl
@[simp] theorem State.direct_tags (s : State) (m : MemMsg) :
    (s.direct m).tags = s.tags := rfl
@[simp] theorem State.direct_ret (s : State) (m : MemMsg) :
    (s.direct m).ret = s.ret := rfl
@[simp] theorem State.direct_notices (s : State) (m : MemMsg) :
    (s.direct m).notices = s.notices := rfl
@[simp] theorem State.direct_port (s : State) (m : MemMsg) :
    (s.direct m).port = s.port := rfl
@[simp] theorem State.direct_control (s : State) (m : MemMsg) :
    (s.direct m).control = s.control := rfl
@[simp] theorem State.direct_settings (s : State) (m : MemMsg) :
    (s.direct m).settings = s.settings := rfl
@[simp] theorem State.direct_pending (s : State) (m : MemMsg) :
    (s.direct m).pending = s.pending := rfl
@[simp] theorem State.direct_chan (s : State) (m : MemMsg) (k : Chan) :
    (s.direct m).chan k = s.chan k := by cases k <;> simp [State.chan]

/-! #### issue -/

@[simp] theorem State.issue_pins (s : State) (t : Tag) (o : Origin) (a : Addr) (b : ReqBody) :
    (s.issue t o a b).pins = s.pins := rfl
@[simp] theorem State.issue_now (s : State) (t : Tag) (o : Origin) (a : Addr) (b : ReqBody) :
    (s.issue t o a b).now = s.now := rfl
@[simp] theorem State.issue_tiles (s : State) (t : Tag) (o : Origin) (a : Addr) (b : ReqBody) :
    (s.issue t o a b).tiles = s.tiles := rfl
@[simp] theorem State.issue_requests (s : State) (t : Tag) (o : Origin) (a : Addr) (b : ReqBody) :
    (s.issue t o a b).requests = s.requests := rfl
@[simp] theorem State.issue_dispatch (s : State) (t : Tag) (o : Origin) (a : Addr) (b : ReqBody) :
    (s.issue t o a b).dispatch = s.dispatch := rfl
@[simp] theorem State.issue_chan0 (s : State) (t : Tag) (o : Origin) (a : Addr) (b : ReqBody) :
    (s.issue t o a b).chan0 = s.chan0 := rfl
@[simp] theorem State.issue_chan1 (s : State) (t : Tag) (o : Origin) (a : Addr) (b : ReqBody) :
    (s.issue t o a b).chan1 = s.chan1 := rfl
@[simp] theorem State.issue_fillQueue (s : State) (t : Tag) (o : Origin) (a : Addr) (b : ReqBody) :
    (s.issue t o a b).fillQueue = s.fillQueue := rfl
@[simp] theorem State.issue_host (s : State) (t : Tag) (o : Origin) (a : Addr) (b : ReqBody) :
    (s.issue t o a b).host = s.host := rfl
@[simp] theorem State.issue_ret (s : State) (t : Tag) (o : Origin) (a : Addr) (b : ReqBody) :
    (s.issue t o a b).ret = s.ret := rfl
@[simp] theorem State.issue_notices (s : State) (t : Tag) (o : Origin) (a : Addr) (b : ReqBody) :
    (s.issue t o a b).notices = s.notices := rfl
@[simp] theorem State.issue_port (s : State) (t : Tag) (o : Origin) (a : Addr) (b : ReqBody) :
    (s.issue t o a b).port = s.port := rfl
@[simp] theorem State.issue_control (s : State) (t : Tag) (o : Origin) (a : Addr) (b : ReqBody) :
    (s.issue t o a b).control = s.control := rfl
@[simp] theorem State.issue_settings (s : State) (t : Tag) (o : Origin) (a : Addr) (b : ReqBody) :
    (s.issue t o a b).settings = s.settings := rfl
@[simp] theorem State.issue_pending (s : State) (t : Tag) (o : Origin) (a : Addr) (b : ReqBody) :
    (s.issue t o a b).pending = s.pending := rfl
@[simp] theorem State.issue_chan (s : State) (t : Tag) (o : Origin) (a : Addr) (b : ReqBody) (k : Chan) :
    (s.issue t o a b).chan k = s.chan k := by cases k <;> simp [State.chan]

/-! #### handSkip -/

@[simp] theorem State.handSkip_pins (s : State) (l : Option SkipLink) (t : Tag) (ok : Bool) :
    (s.handSkip l t ok).pins = s.pins := by cases l <;> simp [State.handSkip]
@[simp] theorem State.handSkip_now (s : State) (l : Option SkipLink) (t : Tag) (ok : Bool) :
    (s.handSkip l t ok).now = s.now := by cases l <;> simp [State.handSkip]
@[simp] theorem State.handSkip_tiles (s : State) (l : Option SkipLink) (t : Tag) (ok : Bool) :
    (s.handSkip l t ok).tiles = s.tiles := by cases l <;> simp [State.handSkip]
@[simp] theorem State.handSkip_requests (s : State) (l : Option SkipLink) (t : Tag) (ok : Bool) :
    (s.handSkip l t ok).requests = s.requests := by cases l <;> simp [State.handSkip]
@[simp] theorem State.handSkip_dispatch (s : State) (l : Option SkipLink) (t : Tag) (ok : Bool) :
    (s.handSkip l t ok).dispatch = s.dispatch := by cases l <;> simp [State.handSkip]
@[simp] theorem State.handSkip_fillQueue (s : State) (l : Option SkipLink) (t : Tag) (ok : Bool) :
    (s.handSkip l t ok).fillQueue = s.fillQueue := by cases l <;> simp [State.handSkip]
@[simp] theorem State.handSkip_host (s : State) (l : Option SkipLink) (t : Tag) (ok : Bool) :
    (s.handSkip l t ok).host = s.host := by cases l <;> simp [State.handSkip]
@[simp] theorem State.handSkip_link (s : State) (l : Option SkipLink) (t : Tag) (ok : Bool) :
    (s.handSkip l t ok).link = s.link := by cases l <;> simp [State.handSkip]
@[simp] theorem State.handSkip_tags (s : State) (l : Option SkipLink) (t : Tag) (ok : Bool) :
    (s.handSkip l t ok).tags = s.tags := by cases l <;> simp [State.handSkip]
@[simp] theorem State.handSkip_ret (s : State) (l : Option SkipLink) (t : Tag) (ok : Bool) :
    (s.handSkip l t ok).ret = s.ret := by cases l <;> simp [State.handSkip]
@[simp] theorem State.handSkip_notices (s : State) (l : Option SkipLink) (t : Tag) (ok : Bool) :
    (s.handSkip l t ok).notices = s.notices := by cases l <;> simp [State.handSkip]
@[simp] theorem State.handSkip_port (s : State) (l : Option SkipLink) (t : Tag) (ok : Bool) :
    (s.handSkip l t ok).port = s.port := by cases l <;> simp [State.handSkip]
@[simp] theorem State.handSkip_control (s : State) (l : Option SkipLink) (t : Tag) (ok : Bool) :
    (s.handSkip l t ok).control = s.control := by cases l <;> simp [State.handSkip]
@[simp] theorem State.handSkip_settings (s : State) (l : Option SkipLink) (t : Tag) (ok : Bool) :
    (s.handSkip l t ok).settings = s.settings := by cases l <;> simp [State.handSkip]
@[simp] theorem State.handSkip_pending (s : State) (l : Option SkipLink) (t : Tag) (ok : Bool) :
    (s.handSkip l t ok).pending = s.pending := by cases l <;> simp [State.handSkip]

/-! #### startFill -/

@[simp] theorem State.startFill_pins (s : State) (t : Tile) (c : Chan) :
    (s.startFill t c).pins = s.pins := by simp [State.startFill]
@[simp] theorem State.startFill_now (s : State) (t : Tile) (c : Chan) :
    (s.startFill t c).now = s.now := by simp [State.startFill]
@[simp] theorem State.startFill_requests (s : State) (t : Tile) (c : Chan) :
    (s.startFill t c).requests = s.requests := by simp [State.startFill]
@[simp] theorem State.startFill_dispatch (s : State) (t : Tile) (c : Chan) :
    (s.startFill t c).dispatch = s.dispatch := by simp [State.startFill]
@[simp] theorem State.startFill_fillQueue (s : State) (t : Tile) (c : Chan) :
    (s.startFill t c).fillQueue = s.fillQueue := by simp [State.startFill]
@[simp] theorem State.startFill_host (s : State) (t : Tile) (c : Chan) :
    (s.startFill t c).host = s.host := by simp [State.startFill]
@[simp] theorem State.startFill_link (s : State) (t : Tile) (c : Chan) :
    (s.startFill t c).link = s.link := by simp [State.startFill]
@[simp] theorem State.startFill_tags (s : State) (t : Tile) (c : Chan) :
    (s.startFill t c).tags = s.tags := by simp [State.startFill]
@[simp] theorem State.startFill_ret (s : State) (t : Tile) (c : Chan) :
    (s.startFill t c).ret = s.ret := by simp [State.startFill]
@[simp] theorem State.startFill_notices (s : State) (t : Tile) (c : Chan) :
    (s.startFill t c).notices = s.notices := by simp [State.startFill]
@[simp] theorem State.startFill_port (s : State) (t : Tile) (c : Chan) :
    (s.startFill t c).port = s.port := by simp [State.startFill]
@[simp] theorem State.startFill_control (s : State) (t : Tile) (c : Chan) :
    (s.startFill t c).control = s.control := by simp [State.startFill]
@[simp] theorem State.startFill_settings (s : State) (t : Tile) (c : Chan) :
    (s.startFill t c).settings = s.settings := by simp [State.startFill]
@[simp] theorem State.startFill_pending (s : State) (t : Tile) (c : Chan) :
    (s.startFill t c).pending = s.pending := by simp [State.startFill]

/-! #### cancel -/

@[simp] theorem State.cancel_pins (s : State) (c : Chan) :
    (s.cancel c).pins = s.pins := by simp [State.cancel]
@[simp] theorem State.cancel_now (s : State) (c : Chan) :
    (s.cancel c).now = s.now := by simp [State.cancel]
@[simp] theorem State.cancel_tiles (s : State) (c : Chan) :
    (s.cancel c).tiles = s.tiles := by simp [State.cancel]
@[simp] theorem State.cancel_requests (s : State) (c : Chan) :
    (s.cancel c).requests = s.requests := by simp [State.cancel]
@[simp] theorem State.cancel_dispatch (s : State) (c : Chan) :
    (s.cancel c).dispatch = s.dispatch := by simp [State.cancel]
@[simp] theorem State.cancel_fillQueue (s : State) (c : Chan) :
    (s.cancel c).fillQueue = s.fillQueue := by simp [State.cancel]
@[simp] theorem State.cancel_host (s : State) (c : Chan) :
    (s.cancel c).host = s.host := by simp [State.cancel]
@[simp] theorem State.cancel_link (s : State) (c : Chan) :
    (s.cancel c).link = s.link := by simp [State.cancel]
@[simp] theorem State.cancel_tags (s : State) (c : Chan) :
    (s.cancel c).tags = s.tags := by simp [State.cancel]
@[simp] theorem State.cancel_ret (s : State) (c : Chan) :
    (s.cancel c).ret = s.ret := by simp [State.cancel]
@[simp] theorem State.cancel_notices (s : State) (c : Chan) :
    (s.cancel c).notices = s.notices := by simp [State.cancel]
@[simp] theorem State.cancel_port (s : State) (c : Chan) :
    (s.cancel c).port = s.port := by simp [State.cancel]
@[simp] theorem State.cancel_control (s : State) (c : Chan) :
    (s.cancel c).control = s.control := by simp [State.cancel]
@[simp] theorem State.cancel_settings (s : State) (c : Chan) :
    (s.cancel c).settings = s.settings := by simp [State.cancel]
@[simp] theorem State.cancel_pending (s : State) (c : Chan) :
    (s.cancel c).pending = s.pending := by simp [State.cancel]

/-! #### tryComplete -/

@[simp] theorem State.tryComplete_pins (s : State) (c : Chan) :
    (s.tryComplete c).pins = s.pins := by unfold State.tryComplete; (repeat' split) <;> simp
@[simp] theorem State.tryComplete_now (s : State) (c : Chan) :
    (s.tryComplete c).now = s.now := by unfold State.tryComplete; (repeat' split) <;> simp
@[simp] theorem State.tryComplete_requests (s : State) (c : Chan) :
    (s.tryComplete c).requests = s.requests := by unfold State.tryComplete; (repeat' split) <;> simp
@[simp] theorem State.tryComplete_dispatch (s : State) (c : Chan) :
    (s.tryComplete c).dispatch = s.dispatch := by unfold State.tryComplete; (repeat' split) <;> simp
@[simp] theorem State.tryComplete_fillQueue (s : State) (c : Chan) :
    (s.tryComplete c).fillQueue = s.fillQueue := by unfold State.tryComplete; (repeat' split) <;> simp
@[simp] theorem State.tryComplete_host (s : State) (c : Chan) :
    (s.tryComplete c).host = s.host := by unfold State.tryComplete; (repeat' split) <;> simp
@[simp] theorem State.tryComplete_link (s : State) (c : Chan) :
    (s.tryComplete c).link = s.link := by unfold State.tryComplete; (repeat' split) <;> simp
@[simp] theorem State.tryComplete_tags (s : State) (c : Chan) :
    (s.tryComplete c).tags = s.tags := by unfold State.tryComplete; (repeat' split) <;> simp
@[simp] theorem State.tryComplete_ret (s : State) (c : Chan) :
    (s.tryComplete c).ret = s.ret := by unfold State.tryComplete; (repeat' split) <;> simp
@[simp] theorem State.tryComplete_port (s : State) (c : Chan) :
    (s.tryComplete c).port = s.port := by unfold State.tryComplete; (repeat' split) <;> simp
@[simp] theorem State.tryComplete_control (s : State) (c : Chan) :
    (s.tryComplete c).control = s.control := by unfold State.tryComplete; (repeat' split) <;> simp
@[simp] theorem State.tryComplete_settings (s : State) (c : Chan) :
    (s.tryComplete c).settings = s.settings := by unfold State.tryComplete; (repeat' split) <;> simp
@[simp] theorem State.tryComplete_pending (s : State) (c : Chan) :
    (s.tryComplete c).pending = s.pending := by unfold State.tryComplete; (repeat' split) <;> simp

/-! #### failTile -/

@[simp] theorem State.failTile_pins (s : State) (c : Chan) (t : Tile) (o : Nat) :
    (s.failTile c t o).pins = s.pins := by unfold State.failTile; (repeat' split) <;> simp
@[simp] theorem State.failTile_now (s : State) (c : Chan) (t : Tile) (o : Nat) :
    (s.failTile c t o).now = s.now := by unfold State.failTile; (repeat' split) <;> simp
@[simp] theorem State.failTile_requests (s : State) (c : Chan) (t : Tile) (o : Nat) :
    (s.failTile c t o).requests = s.requests := by unfold State.failTile; (repeat' split) <;> simp
@[simp] theorem State.failTile_dispatch (s : State) (c : Chan) (t : Tile) (o : Nat) :
    (s.failTile c t o).dispatch = s.dispatch := by unfold State.failTile; (repeat' split) <;> simp
@[simp] theorem State.failTile_fillQueue (s : State) (c : Chan) (t : Tile) (o : Nat) :
    (s.failTile c t o).fillQueue = s.fillQueue := by unfold State.failTile; (repeat' split) <;> simp
@[simp] theorem State.failTile_host (s : State) (c : Chan) (t : Tile) (o : Nat) :
    (s.failTile c t o).host = s.host := by unfold State.failTile; (repeat' split) <;> simp
@[simp] theorem State.failTile_link (s : State) (c : Chan) (t : Tile) (o : Nat) :
    (s.failTile c t o).link = s.link := by unfold State.failTile; (repeat' split) <;> simp
@[simp] theorem State.failTile_tags (s : State) (c : Chan) (t : Tile) (o : Nat) :
    (s.failTile c t o).tags = s.tags := by unfold State.failTile; (repeat' split) <;> simp
@[simp] theorem State.failTile_ret (s : State) (c : Chan) (t : Tile) (o : Nat) :
    (s.failTile c t o).ret = s.ret := by unfold State.failTile; (repeat' split) <;> simp
@[simp] theorem State.failTile_port (s : State) (c : Chan) (t : Tile) (o : Nat) :
    (s.failTile c t o).port = s.port := by unfold State.failTile; (repeat' split) <;> simp
@[simp] theorem State.failTile_control (s : State) (c : Chan) (t : Tile) (o : Nat) :
    (s.failTile c t o).control = s.control := by unfold State.failTile; (repeat' split) <;> simp
@[simp] theorem State.failTile_settings (s : State) (c : Chan) (t : Tile) (o : Nat) :
    (s.failTile c t o).settings = s.settings := by unfold State.failTile; (repeat' split) <;> simp
@[simp] theorem State.failTile_pending (s : State) (c : Chan) (t : Tile) (o : Nat) :
    (s.failTile c t o).pending = s.pending := by unfold State.failTile; (repeat' split) <;> simp

/-! #### retryFill -/

@[simp] theorem State.retryFill_pins (s : State) (c : Chan) (t : Tile) (o : Nat) :
    (s.retryFill c t o).pins = s.pins := by simp [State.retryFill]
@[simp] theorem State.retryFill_now (s : State) (c : Chan) (t : Tile) (o : Nat) :
    (s.retryFill c t o).now = s.now := by simp [State.retryFill]
@[simp] theorem State.retryFill_tiles (s : State) (c : Chan) (t : Tile) (o : Nat) :
    (s.retryFill c t o).tiles = s.tiles := by simp [State.retryFill]
@[simp] theorem State.retryFill_requests (s : State) (c : Chan) (t : Tile) (o : Nat) :
    (s.retryFill c t o).requests = s.requests := by simp [State.retryFill]
@[simp] theorem State.retryFill_dispatch (s : State) (c : Chan) (t : Tile) (o : Nat) :
    (s.retryFill c t o).dispatch = s.dispatch := by simp [State.retryFill]
@[simp] theorem State.retryFill_fillQueue (s : State) (c : Chan) (t : Tile) (o : Nat) :
    (s.retryFill c t o).fillQueue = s.fillQueue := by simp [State.retryFill]
@[simp] theorem State.retryFill_host (s : State) (c : Chan) (t : Tile) (o : Nat) :
    (s.retryFill c t o).host = s.host := by simp [State.retryFill]
@[simp] theorem State.retryFill_link (s : State) (c : Chan) (t : Tile) (o : Nat) :
    (s.retryFill c t o).link = s.link := by simp [State.retryFill]
@[simp] theorem State.retryFill_tags (s : State) (c : Chan) (t : Tile) (o : Nat) :
    (s.retryFill c t o).tags = s.tags := by simp [State.retryFill]
@[simp] theorem State.retryFill_ret (s : State) (c : Chan) (t : Tile) (o : Nat) :
    (s.retryFill c t o).ret = s.ret := by simp [State.retryFill]
@[simp] theorem State.retryFill_port (s : State) (c : Chan) (t : Tile) (o : Nat) :
    (s.retryFill c t o).port = s.port := by simp [State.retryFill]
@[simp] theorem State.retryFill_control (s : State) (c : Chan) (t : Tile) (o : Nat) :
    (s.retryFill c t o).control = s.control := by simp [State.retryFill]
@[simp] theorem State.retryFill_settings (s : State) (c : Chan) (t : Tile) (o : Nat) :
    (s.retryFill c t o).settings = s.settings := by simp [State.retryFill]
@[simp] theorem State.retryFill_pending (s : State) (c : Chan) (t : Tile) (o : Nat) :
    (s.retryFill c t o).pending = s.pending := by simp [State.retryFill]

/-! #### ignoreFill -/

@[simp] theorem State.ignoreFill_pins (s : State) (c : Chan) (o : Nat) :
    (s.ignoreFill c o).pins = s.pins := by simp [State.ignoreFill]
@[simp] theorem State.ignoreFill_now (s : State) (c : Chan) (o : Nat) :
    (s.ignoreFill c o).now = s.now := by simp [State.ignoreFill]
@[simp] theorem State.ignoreFill_tiles (s : State) (c : Chan) (o : Nat) :
    (s.ignoreFill c o).tiles = s.tiles := by simp [State.ignoreFill]
@[simp] theorem State.ignoreFill_requests (s : State) (c : Chan) (o : Nat) :
    (s.ignoreFill c o).requests = s.requests := by simp [State.ignoreFill]
@[simp] theorem State.ignoreFill_dispatch (s : State) (c : Chan) (o : Nat) :
    (s.ignoreFill c o).dispatch = s.dispatch := by simp [State.ignoreFill]
@[simp] theorem State.ignoreFill_fillQueue (s : State) (c : Chan) (o : Nat) :
    (s.ignoreFill c o).fillQueue = s.fillQueue := by simp [State.ignoreFill]
@[simp] theorem State.ignoreFill_host (s : State) (c : Chan) (o : Nat) :
    (s.ignoreFill c o).host = s.host := by simp [State.ignoreFill]
@[simp] theorem State.ignoreFill_link (s : State) (c : Chan) (o : Nat) :
    (s.ignoreFill c o).link = s.link := by simp [State.ignoreFill]
@[simp] theorem State.ignoreFill_tags (s : State) (c : Chan) (o : Nat) :
    (s.ignoreFill c o).tags = s.tags := by simp [State.ignoreFill]
@[simp] theorem State.ignoreFill_ret (s : State) (c : Chan) (o : Nat) :
    (s.ignoreFill c o).ret = s.ret := by simp [State.ignoreFill]
@[simp] theorem State.ignoreFill_notices (s : State) (c : Chan) (o : Nat) :
    (s.ignoreFill c o).notices = s.notices := by simp [State.ignoreFill]
@[simp] theorem State.ignoreFill_port (s : State) (c : Chan) (o : Nat) :
    (s.ignoreFill c o).port = s.port := by simp [State.ignoreFill]
@[simp] theorem State.ignoreFill_control (s : State) (c : Chan) (o : Nat) :
    (s.ignoreFill c o).control = s.control := by simp [State.ignoreFill]
@[simp] theorem State.ignoreFill_settings (s : State) (c : Chan) (o : Nat) :
    (s.ignoreFill c o).settings = s.settings := by simp [State.ignoreFill]
@[simp] theorem State.ignoreFill_pending (s : State) (c : Chan) (o : Nat) :
    (s.ignoreFill c o).pending = s.pending := by simp [State.ignoreFill]

/-! #### handFill -/

@[simp] theorem State.handFill_pins (s : State) (c : Chan) (o : Nat) (t : Tag) (ok : Bool) :
    (s.handFill c o t ok).pins = s.pins := by unfold State.handFill; (repeat' split) <;> simp
@[simp] theorem State.handFill_now (s : State) (c : Chan) (o : Nat) (t : Tag) (ok : Bool) :
    (s.handFill c o t ok).now = s.now := by unfold State.handFill; (repeat' split) <;> simp
@[simp] theorem State.handFill_requests (s : State) (c : Chan) (o : Nat) (t : Tag) (ok : Bool) :
    (s.handFill c o t ok).requests = s.requests := by unfold State.handFill; (repeat' split) <;> simp
@[simp] theorem State.handFill_dispatch (s : State) (c : Chan) (o : Nat) (t : Tag) (ok : Bool) :
    (s.handFill c o t ok).dispatch = s.dispatch := by unfold State.handFill; (repeat' split) <;> simp
@[simp] theorem State.handFill_fillQueue (s : State) (c : Chan) (o : Nat) (t : Tag) (ok : Bool) :
    (s.handFill c o t ok).fillQueue = s.fillQueue := by unfold State.handFill; (repeat' split) <;> simp
@[simp] theorem State.handFill_host (s : State) (c : Chan) (o : Nat) (t : Tag) (ok : Bool) :
    (s.handFill c o t ok).host = s.host := by unfold State.handFill; (repeat' split) <;> simp
@[simp] theorem State.handFill_link (s : State) (c : Chan) (o : Nat) (t : Tag) (ok : Bool) :
    (s.handFill c o t ok).link = s.link := by unfold State.handFill; (repeat' split) <;> simp
@[simp] theorem State.handFill_tags (s : State) (c : Chan) (o : Nat) (t : Tag) (ok : Bool) :
    (s.handFill c o t ok).tags = s.tags := by unfold State.handFill; (repeat' split) <;> simp
@[simp] theorem State.handFill_ret (s : State) (c : Chan) (o : Nat) (t : Tag) (ok : Bool) :
    (s.handFill c o t ok).ret = s.ret := by unfold State.handFill; (repeat' split) <;> simp
@[simp] theorem State.handFill_port (s : State) (c : Chan) (o : Nat) (t : Tag) (ok : Bool) :
    (s.handFill c o t ok).port = s.port := by unfold State.handFill; (repeat' split) <;> simp
@[simp] theorem State.handFill_control (s : State) (c : Chan) (o : Nat) (t : Tag) (ok : Bool) :
    (s.handFill c o t ok).control = s.control := by unfold State.handFill; (repeat' split) <;> simp
@[simp] theorem State.handFill_settings (s : State) (c : Chan) (o : Nat) (t : Tag) (ok : Bool) :
    (s.handFill c o t ok).settings = s.settings := by unfold State.handFill; (repeat' split) <;> simp
@[simp] theorem State.handFill_pending (s : State) (c : Chan) (o : Nat) (t : Tag) (ok : Bool) :
    (s.handFill c o t ok).pending = s.pending := by unfold State.handFill; (repeat' split) <;> simp

/-! #### needRelease -/

@[simp] theorem State.needRelease_pins (s : State) :
    (s.needRelease).pins = s.pins := rfl
@[simp] theorem State.needRelease_now (s : State) :
    (s.needRelease).now = s.now := rfl
@[simp] theorem State.needRelease_tiles (s : State) :
    (s.needRelease).tiles = s.tiles := rfl
@[simp] theorem State.needRelease_requests (s : State) :
    (s.needRelease).requests = s.requests := rfl
@[simp] theorem State.needRelease_dispatch (s : State) :
    (s.needRelease).dispatch = s.dispatch := rfl
@[simp] theorem State.needRelease_chan0 (s : State) :
    (s.needRelease).chan0 = s.chan0 := rfl
@[simp] theorem State.needRelease_chan1 (s : State) :
    (s.needRelease).chan1 = s.chan1 := rfl
@[simp] theorem State.needRelease_fillQueue (s : State) :
    (s.needRelease).fillQueue = s.fillQueue := rfl
@[simp] theorem State.needRelease_host (s : State) :
    (s.needRelease).host = s.host := rfl
@[simp] theorem State.needRelease_link (s : State) :
    (s.needRelease).link = s.link := rfl
@[simp] theorem State.needRelease_tags (s : State) :
    (s.needRelease).tags = s.tags := rfl
@[simp] theorem State.needRelease_notices (s : State) :
    (s.needRelease).notices = s.notices := rfl
@[simp] theorem State.needRelease_port (s : State) :
    (s.needRelease).port = s.port := rfl
@[simp] theorem State.needRelease_control (s : State) :
    (s.needRelease).control = s.control := rfl
@[simp] theorem State.needRelease_settings (s : State) :
    (s.needRelease).settings = s.settings := rfl
@[simp] theorem State.needRelease_pending (s : State) :
    (s.needRelease).pending = s.pending := rfl
@[simp] theorem State.needRelease_chan (s : State) (k : Chan) :
    (s.needRelease).chan k = s.chan k := by cases k <;> simp [State.chan]

/-! #### sendExit -/

@[simp] theorem State.sendExit_pins (s : State) (n : Nat) :
    (s.sendExit n).pins = s.pins := by simp [State.sendExit]
@[simp] theorem State.sendExit_now (s : State) (n : Nat) :
    (s.sendExit n).now = s.now := by simp [State.sendExit]
@[simp] theorem State.sendExit_tiles (s : State) (n : Nat) :
    (s.sendExit n).tiles = s.tiles := by simp [State.sendExit]
@[simp] theorem State.sendExit_requests (s : State) (n : Nat) :
    (s.sendExit n).requests = s.requests := by simp [State.sendExit]
@[simp] theorem State.sendExit_dispatch (s : State) (n : Nat) :
    (s.sendExit n).dispatch = s.dispatch := by simp [State.sendExit]
@[simp] theorem State.sendExit_chan0 (s : State) (n : Nat) :
    (s.sendExit n).chan0 = s.chan0 := by simp [State.sendExit]
@[simp] theorem State.sendExit_chan1 (s : State) (n : Nat) :
    (s.sendExit n).chan1 = s.chan1 := by simp [State.sendExit]
@[simp] theorem State.sendExit_fillQueue (s : State) (n : Nat) :
    (s.sendExit n).fillQueue = s.fillQueue := by simp [State.sendExit]
@[simp] theorem State.sendExit_host (s : State) (n : Nat) :
    (s.sendExit n).host = s.host := by simp [State.sendExit]
@[simp] theorem State.sendExit_tags (s : State) (n : Nat) :
    (s.sendExit n).tags = s.tags := by simp [State.sendExit]
@[simp] theorem State.sendExit_notices (s : State) (n : Nat) :
    (s.sendExit n).notices = s.notices := by simp [State.sendExit]
@[simp] theorem State.sendExit_port (s : State) (n : Nat) :
    (s.sendExit n).port = s.port := by simp [State.sendExit]
@[simp] theorem State.sendExit_control (s : State) (n : Nat) :
    (s.sendExit n).control = s.control := by simp [State.sendExit]
@[simp] theorem State.sendExit_settings (s : State) (n : Nat) :
    (s.sendExit n).settings = s.settings := by simp [State.sendExit]
@[simp] theorem State.sendExit_pending (s : State) (n : Nat) :
    (s.sendExit n).pending = s.pending := by simp [State.sendExit]
@[simp] theorem State.sendExit_chan (s : State) (n : Nat) (k : Chan) :
    (s.sendExit n).chan k = s.chan k := by cases k <;> simp [State.chan]

/-! #### startDrain -/

@[simp] theorem State.startDrain_pins (s : State) :
    (s.startDrain).pins = s.pins := by unfold State.startDrain; (repeat' split) <;> simp
@[simp] theorem State.startDrain_now (s : State) :
    (s.startDrain).now = s.now := by unfold State.startDrain; (repeat' split) <;> simp
@[simp] theorem State.startDrain_tiles (s : State) :
    (s.startDrain).tiles = s.tiles := by unfold State.startDrain; (repeat' split) <;> simp
@[simp] theorem State.startDrain_requests (s : State) :
    (s.startDrain).requests = s.requests := by unfold State.startDrain; (repeat' split) <;> simp
@[simp] theorem State.startDrain_fillQueue (s : State) :
    (s.startDrain).fillQueue = s.fillQueue := by unfold State.startDrain; (repeat' split) <;> simp
@[simp] theorem State.startDrain_host (s : State) :
    (s.startDrain).host = s.host := by unfold State.startDrain; (repeat' split) <;> simp
@[simp] theorem State.startDrain_link (s : State) :
    (s.startDrain).link = s.link := by unfold State.startDrain; (repeat' split) <;> simp
@[simp] theorem State.startDrain_tags (s : State) :
    (s.startDrain).tags = s.tags := by unfold State.startDrain; (repeat' split) <;> simp
@[simp] theorem State.startDrain_notices (s : State) :
    (s.startDrain).notices = s.notices := by unfold State.startDrain; (repeat' split) <;> simp
@[simp] theorem State.startDrain_port (s : State) :
    (s.startDrain).port = s.port := by unfold State.startDrain; (repeat' split) <;> simp
@[simp] theorem State.startDrain_control (s : State) :
    (s.startDrain).control = s.control := by unfold State.startDrain; (repeat' split) <;> simp
@[simp] theorem State.startDrain_settings (s : State) :
    (s.startDrain).settings = s.settings := by unfold State.startDrain; (repeat' split) <;> simp
@[simp] theorem State.startDrain_pending (s : State) :
    (s.startDrain).pending = s.pending := by unfold State.startDrain; (repeat' split) <;> simp

/-! #### completeDrain -/

@[simp] theorem State.completeDrain_pins (s : State) :
    (s.completeDrain).pins = s.pins := by simp [State.completeDrain]
@[simp] theorem State.completeDrain_now (s : State) :
    (s.completeDrain).now = s.now := by simp [State.completeDrain]
@[simp] theorem State.completeDrain_requests (s : State) :
    (s.completeDrain).requests = s.requests := by simp [State.completeDrain]
@[simp] theorem State.completeDrain_dispatch (s : State) :
    (s.completeDrain).dispatch = s.dispatch := by simp [State.completeDrain]
@[simp] theorem State.completeDrain_chan0 (s : State) :
    (s.completeDrain).chan0 = s.chan0 := by simp [State.completeDrain]
@[simp] theorem State.completeDrain_chan1 (s : State) :
    (s.completeDrain).chan1 = s.chan1 := by simp [State.completeDrain]
@[simp] theorem State.completeDrain_fillQueue (s : State) :
    (s.completeDrain).fillQueue = s.fillQueue := by simp [State.completeDrain]
@[simp] theorem State.completeDrain_host (s : State) :
    (s.completeDrain).host = s.host := by simp [State.completeDrain]
@[simp] theorem State.completeDrain_tags (s : State) :
    (s.completeDrain).tags = s.tags := by simp [State.completeDrain]
@[simp] theorem State.completeDrain_notices (s : State) :
    (s.completeDrain).notices = s.notices := by simp [State.completeDrain]
@[simp] theorem State.completeDrain_port (s : State) :
    (s.completeDrain).port = s.port := by simp [State.completeDrain]
@[simp] theorem State.completeDrain_control (s : State) :
    (s.completeDrain).control = s.control := by simp [State.completeDrain]
@[simp] theorem State.completeDrain_settings (s : State) :
    (s.completeDrain).settings = s.settings := by simp [State.completeDrain]
@[simp] theorem State.completeDrain_pending (s : State) :
    (s.completeDrain).pending = s.pending := by simp [State.completeDrain]
@[simp] theorem State.completeDrain_chan (s : State) (k : Chan) :
    (s.completeDrain).chan k = s.chan k := by cases k <;> simp [State.chan]

/-! #### settleDrain -/

@[simp] theorem State.settleDrain_pins (s : State) :
    (s.settleDrain).pins = s.pins := by unfold State.settleDrain; (repeat' split) <;> simp
@[simp] theorem State.settleDrain_now (s : State) :
    (s.settleDrain).now = s.now := by unfold State.settleDrain; (repeat' split) <;> simp
@[simp] theorem State.settleDrain_requests (s : State) :
    (s.settleDrain).requests = s.requests := by unfold State.settleDrain; (repeat' split) <;> simp
@[simp] theorem State.settleDrain_dispatch (s : State) :
    (s.settleDrain).dispatch = s.dispatch := by unfold State.settleDrain; (repeat' split) <;> simp
@[simp] theorem State.settleDrain_chan0 (s : State) :
    (s.settleDrain).chan0 = s.chan0 := by unfold State.settleDrain; (repeat' split) <;> simp
@[simp] theorem State.settleDrain_chan1 (s : State) :
    (s.settleDrain).chan1 = s.chan1 := by unfold State.settleDrain; (repeat' split) <;> simp
@[simp] theorem State.settleDrain_fillQueue (s : State) :
    (s.settleDrain).fillQueue = s.fillQueue := by unfold State.settleDrain; (repeat' split) <;> simp
@[simp] theorem State.settleDrain_host (s : State) :
    (s.settleDrain).host = s.host := by unfold State.settleDrain; (repeat' split) <;> simp
@[simp] theorem State.settleDrain_tags (s : State) :
    (s.settleDrain).tags = s.tags := by unfold State.settleDrain; (repeat' split) <;> simp
@[simp] theorem State.settleDrain_notices (s : State) :
    (s.settleDrain).notices = s.notices := by unfold State.settleDrain; (repeat' split) <;> simp
@[simp] theorem State.settleDrain_port (s : State) :
    (s.settleDrain).port = s.port := by unfold State.settleDrain; (repeat' split) <;> simp
@[simp] theorem State.settleDrain_control (s : State) :
    (s.settleDrain).control = s.control := by unfold State.settleDrain; (repeat' split) <;> simp
@[simp] theorem State.settleDrain_settings (s : State) :
    (s.settleDrain).settings = s.settings := by unfold State.settleDrain; (repeat' split) <;> simp
@[simp] theorem State.settleDrain_pending (s : State) :
    (s.settleDrain).pending = s.pending := by unfold State.settleDrain; (repeat' split) <;> simp
@[simp] theorem State.settleDrain_chan (s : State) (k : Chan) :
    (s.settleDrain).chan k = s.chan k := by cases k <;> simp [State.chan]

/-! #### endDisengage -/

@[simp] theorem State.endDisengage_pins (s : State) :
    (s.endDisengage).pins = s.pins := by simp [State.endDisengage]
@[simp] theorem State.endDisengage_now (s : State) :
    (s.endDisengage).now = s.now := by simp [State.endDisengage]
@[simp] theorem State.endDisengage_requests (s : State) :
    (s.endDisengage).requests = s.requests := by simp [State.endDisengage]
@[simp] theorem State.endDisengage_dispatch (s : State) :
    (s.endDisengage).dispatch = s.dispatch := by simp [State.endDisengage]
@[simp] theorem State.endDisengage_chan0 (s : State) :
    (s.endDisengage).chan0 = s.chan0 := by simp [State.endDisengage]
@[simp] theorem State.endDisengage_chan1 (s : State) :
    (s.endDisengage).chan1 = s.chan1 := by simp [State.endDisengage]
@[simp] theorem State.endDisengage_fillQueue (s : State) :
    (s.endDisengage).fillQueue = s.fillQueue := by simp [State.endDisengage]
@[simp] theorem State.endDisengage_host (s : State) :
    (s.endDisengage).host = s.host := by simp [State.endDisengage]
@[simp] theorem State.endDisengage_tags (s : State) :
    (s.endDisengage).tags = s.tags := by simp [State.endDisengage]
@[simp] theorem State.endDisengage_notices (s : State) :
    (s.endDisengage).notices = s.notices := by simp [State.endDisengage]
@[simp] theorem State.endDisengage_settings (s : State) :
    (s.endDisengage).settings = s.settings := by simp [State.endDisengage]
@[simp] theorem State.endDisengage_pending (s : State) :
    (s.endDisengage).pending = s.pending := by simp [State.endDisengage]
@[simp] theorem State.endDisengage_chan (s : State) (k : Chan) :
    (s.endDisengage).chan k = s.chan k := by cases k <;> simp [State.chan]

/-! #### settleDisengage -/

@[simp] theorem State.settleDisengage_pins (s : State) :
    (s.settleDisengage).pins = s.pins := by unfold State.settleDisengage; (repeat' split) <;> simp
@[simp] theorem State.settleDisengage_now (s : State) :
    (s.settleDisengage).now = s.now := by unfold State.settleDisengage; (repeat' split) <;> simp
@[simp] theorem State.settleDisengage_requests (s : State) :
    (s.settleDisengage).requests = s.requests := by unfold State.settleDisengage; (repeat' split) <;> simp
@[simp] theorem State.settleDisengage_dispatch (s : State) :
    (s.settleDisengage).dispatch = s.dispatch := by unfold State.settleDisengage; (repeat' split) <;> simp
@[simp] theorem State.settleDisengage_chan0 (s : State) :
    (s.settleDisengage).chan0 = s.chan0 := by unfold State.settleDisengage; (repeat' split) <;> simp
@[simp] theorem State.settleDisengage_chan1 (s : State) :
    (s.settleDisengage).chan1 = s.chan1 := by unfold State.settleDisengage; (repeat' split) <;> simp
@[simp] theorem State.settleDisengage_fillQueue (s : State) :
    (s.settleDisengage).fillQueue = s.fillQueue := by unfold State.settleDisengage; (repeat' split) <;> simp
@[simp] theorem State.settleDisengage_host (s : State) :
    (s.settleDisengage).host = s.host := by unfold State.settleDisengage; (repeat' split) <;> simp
@[simp] theorem State.settleDisengage_tags (s : State) :
    (s.settleDisengage).tags = s.tags := by unfold State.settleDisengage; (repeat' split) <;> simp
@[simp] theorem State.settleDisengage_notices (s : State) :
    (s.settleDisengage).notices = s.notices := by unfold State.settleDisengage; (repeat' split) <;> simp
@[simp] theorem State.settleDisengage_settings (s : State) :
    (s.settleDisengage).settings = s.settings := by unfold State.settleDisengage; (repeat' split) <;> simp
@[simp] theorem State.settleDisengage_pending (s : State) :
    (s.settleDisengage).pending = s.pending := by unfold State.settleDisengage; (repeat' split) <;> simp
@[simp] theorem State.settleDisengage_chan (s : State) (k : Chan) :
    (s.settleDisengage).chan k = s.chan k := by cases k <;> simp [State.chan]

/-! #### clear -/

@[simp] theorem State.clear_pins (s : State) :
    (s.clear).pins = s.pins := by simp [State.clear]
@[simp] theorem State.clear_now (s : State) :
    (s.clear).now = s.now := by simp [State.clear]
@[simp] theorem State.clear_requests (s : State) :
    (s.clear).requests = s.requests := by simp [State.clear]
@[simp] theorem State.clear_host (s : State) :
    (s.clear).host = s.host := by simp [State.clear]
@[simp] theorem State.clear_tags (s : State) :
    (s.clear).tags = s.tags := by simp [State.clear]
@[simp] theorem State.clear_settings (s : State) :
    (s.clear).settings = s.settings := by simp [State.clear]
@[simp] theorem State.clear_pending (s : State) :
    (s.clear).pending = s.pending := by simp [State.clear]

/-! #### settleRestart -/

@[simp] theorem State.settleRestart_pins (s : State) :
    (s.settleRestart).pins = s.pins := by unfold State.settleRestart; (repeat' split) <;> simp
@[simp] theorem State.settleRestart_now (s : State) :
    (s.settleRestart).now = s.now := by unfold State.settleRestart; (repeat' split) <;> simp
@[simp] theorem State.settleRestart_requests (s : State) :
    (s.settleRestart).requests = s.requests := by unfold State.settleRestart; (repeat' split) <;> simp
@[simp] theorem State.settleRestart_host (s : State) :
    (s.settleRestart).host = s.host := by unfold State.settleRestart; (repeat' split) <;> simp
@[simp] theorem State.settleRestart_tags (s : State) :
    (s.settleRestart).tags = s.tags := by unfold State.settleRestart; (repeat' split) <;> simp
@[simp] theorem State.settleRestart_settings (s : State) :
    (s.settleRestart).settings = s.settings := by unfold State.settleRestart; (repeat' split) <;> simp
@[simp] theorem State.settleRestart_pending (s : State) :
    (s.settleRestart).pending = s.pending := by unfold State.settleRestart; (repeat' split) <;> simp

/-! #### settleTag -/

@[simp] theorem State.settleTag_pins (s : State) :
    (s.settleTag).pins = s.pins := by unfold State.settleTag; (repeat' split) <;> simp
@[simp] theorem State.settleTag_now (s : State) :
    (s.settleTag).now = s.now := by unfold State.settleTag; (repeat' split) <;> simp
@[simp] theorem State.settleTag_requests (s : State) :
    (s.settleTag).requests = s.requests := by unfold State.settleTag; (repeat' split) <;> simp
@[simp] theorem State.settleTag_host (s : State) :
    (s.settleTag).host = s.host := by unfold State.settleTag; (repeat' split) <;> simp
@[simp] theorem State.settleTag_tags (s : State) :
    (s.settleTag).tags = s.tags := by unfold State.settleTag; (repeat' split) <;> simp
@[simp] theorem State.settleTag_settings (s : State) :
    (s.settleTag).settings = s.settings := by unfold State.settleTag; (repeat' split) <;> simp
@[simp] theorem State.settleTag_pending (s : State) :
    (s.settleTag).pending = s.pending := by unfold State.settleTag; (repeat' split) <;> simp
/-! ### Fields an operation writes -/

@[simp] theorem State.setTile_tiles (s : State) (t : Tile) (x : TileState) :
    (s.setTile t x).tiles = s.tiles.set t x := rfl

@[simp] theorem State.setTag_tags (s : State) (t : Tag) (e : TagEntry) :
    (s.setTag t e).tags = s.tags.set t e := rfl

@[simp] theorem State.setChan_chan (s : State) (c : Chan) (r : Channel) :
    (s.setChan c r).chan c = r.examined s.control.mode s.settings.burstCount := by cases c <;> rfl

theorem State.setChan_chan_ne (s : State) {c k : Chan} (r : Channel) (h : k ≠ c) :
    (s.setChan c r).chan k = s.chan k := by cases c <;> cases k <;> simp_all [setChan, chan]

@[simp] theorem State.setChan_other (s : State) (c : Chan) (r : Channel) :
    (s.setChan c r).chan (otherChan c) = s.chan (otherChan c) := by cases c <;> rfl

@[simp] theorem State.chan_ch0 (s : State) : s.chan .ch0 = s.chan0 := rfl

@[simp] theorem State.chan_ch1 (s : State) : s.chan .ch1 = s.chan1 := rfl

@[simp] theorem State.setPaused_chan (s : State) (b : Bool) (k : Chan) :
    (s.setPaused b).chan k = Channel.examined s.control.mode s.settings.burstCount { s.chan k with paused := b } := by
  cases k <;> rfl

@[simp] theorem State.examineChans_chan (s : State) (k : Chan) :
    s.examineChans.chan k = (s.chan k).examined s.control.mode s.settings.burstCount := by cases k <;> rfl

@[simp] theorem State.dropHead_dispatch (s : State) :
    s.dropHead.dispatch = { headClass := none, claim := none } := rfl

@[simp] theorem State.setHead_dispatch (s : State) (h : HeadClass) :
    (s.setHead h).dispatch = { headClass := some h, claim := none } := rfl

@[simp] theorem State.reach_now (s : State) (d : Micros) : (s.reach d).now = max s.now d := rfl

@[simp] theorem State.tick_now (s : State) : s.tick.now = s.now + 1 := rfl

@[simp] theorem State.popHead_requests (s : State) : s.popHead.requests = s.requests.tail := rfl

@[simp] theorem State.popHead_dispatch (s : State) :
    s.popHead.dispatch = { headClass := none, claim := none } := rfl

@[simp] theorem State.post_notices (s : State) (n : Notice) :
    (s.post n).notices = s.notices.posted s.settings.noticeMask n := rfl

@[simp] theorem State.direct_link (s : State) (m : MemMsg) :
    (s.direct m).link = s.link.direct m := rfl

@[simp] theorem State.setChan_ch0_chan0 (s : State) (r : Channel) :
    (s.setChan .ch0 r).chan0 = r.examined s.control.mode s.settings.burstCount := rfl

@[simp] theorem State.setChan_ch0_chan1 (s : State) (r : Channel) :
    (s.setChan .ch0 r).chan1 = s.chan1 := rfl

@[simp] theorem State.setChan_ch1_chan0 (s : State) (r : Channel) :
    (s.setChan .ch1 r).chan0 = s.chan0 := rfl

@[simp] theorem State.setChan_ch1_chan1 (s : State) (r : Channel) :
    (s.setChan .ch1 r).chan1 = r.examined s.control.mode s.settings.burstCount := rfl

@[simp] theorem State.setPaused_chan0 (s : State) (b : Bool) :
    (s.setPaused b).chan0 = Channel.examined s.control.mode s.settings.burstCount { s.chan0 with paused := b } := rfl

@[simp] theorem State.setPaused_chan1 (s : State) (b : Bool) :
    (s.setPaused b).chan1 = Channel.examined s.control.mode s.settings.burstCount { s.chan1 with paused := b } := rfl

@[simp] theorem State.respond_up (s : State) (t : HostTag) (st : HostStatus) (d : Option Burst) :
    (s.respond t st d).host.up = s.host.up := rfl

@[simp] theorem State.respond_balance (s : State) (t : HostTag) (st : HostStatus)
    (d : Option Burst) : (s.respond t st d).host.balance = s.host.balance := rfl

@[simp] theorem State.respond_owed (s : State) (t : HostTag) (st : HostStatus)
    (d : Option Burst) : (s.respond t st d).host.owed = s.host.owed := rfl

@[simp] theorem State.respond_outstanding (s : State) (t : HostTag) (st : HostStatus)
    (d : Option Burst) :
    (s.respond t st d).host.outstanding = dropTag s.host.outstanding t := rfl

@[simp] theorem State.respond_sent (s : State) (t : HostTag) (st : HostStatus)
    (d : Option Burst) :
    (s.respond t st d).host.sent = s.host.sent ++ [.response t st d] := rfl

@[simp] theorem HostLink.sendCredit_up (h : HostLink) : h.sendCredit.up = h.up := by
  unfold HostLink.sendCredit; split <;> rfl

@[simp] theorem HostLink.sendCredit_outstanding (h : HostLink) :
    h.sendCredit.outstanding = h.outstanding := by unfold HostLink.sendCredit; split <;> rfl

@[simp] theorem HostLink.sendCredit_owed (h : HostLink) : h.sendCredit.owed = 0 := by
  unfold HostLink.sendCredit; split <;> simp_all

@[simp] theorem HostLink.sendCredit_balance (h : HostLink) :
    h.sendCredit.balance = h.balance + h.owed := by
  unfold HostLink.sendCredit; split <;> simp_all

@[simp] theorem State.returnCredits_up (s : State) (n : Nat) :
    (s.returnCredits n).host.up = s.host.up := by simp [State.returnCredits]

@[simp] theorem State.returnCredits_outstanding (s : State) (n : Nat) :
    (s.returnCredits n).host.outstanding = s.host.outstanding := by simp [State.returnCredits]

@[simp] theorem State.returnCredits_owed (s : State) (n : Nat) :
    (s.returnCredits n).host.owed = 0 := by simp [State.returnCredits]

@[simp] theorem State.returnCredits_balance (s : State) (n : Nat) :
    (s.returnCredits n).host.balance = s.host.balance + (s.host.owed + n) := by
  simp [State.returnCredits]

@[simp] theorem State.issue_tags (s : State) (t : Tag) (o : Origin) (a : Addr) (b : ReqBody) :
    (s.issue t o a b).tags = s.tags.set t (.inUse o (s.now + s.settings.respTimeout)) := rfl

@[simp] theorem State.issue_sent (s : State) (t : Tag) (o : Origin) (a : Addr) (b : ReqBody) :
    (s.issue t o a b).link.sent = s.link.sent ++ [.request t a b] := rfl

@[simp] theorem State.issue_credits (s : State) (t : Tag) (o : Origin) (a : Addr) (b : ReqBody) :
    (s.issue t o a b).link.credits = s.link.credits - 1 := rfl

@[simp] theorem MemLink.direct_up (l : MemLink) (m : MemMsg) : (l.direct m).up = l.up := by
  unfold MemLink.direct; split <;> rfl

@[simp] theorem MemLink.direct_credits (l : MemLink) (m : MemMsg) :
    (l.direct m).credits = l.credits := by unfold MemLink.direct; split <;> rfl

@[simp] theorem MemLink.direct_fillPass (l : MemLink) (m : MemMsg) :
    (l.direct m).fillPass = l.fillPass := by unfold MemLink.direct; split <;> rfl

@[simp] theorem MemLink.direct_lastGranted (l : MemLink) (m : MemMsg) :
    (l.direct m).lastGranted = l.lastGranted := by unfold MemLink.direct; split <;> rfl

@[simp] theorem State.sendExit_state (s : State) (n : Nat) : (s.sendExit n).ret.state = .exiting :=
  rfl

@[simp] theorem State.sendExit_exitAttempts (s : State) (n : Nat) :
    (s.sendExit n).ret.exitAttempts = n := rfl

@[simp] theorem State.sendExit_slpAck (s : State) (n : Nat) :
    (s.sendExit n).ret.slpAck = s.ret.slpAck := by simp [State.sendExit]

@[simp] theorem State.sendExit_releaseNeeded (s : State) (n : Nat) :
    (s.sendExit n).ret.releaseNeeded = s.ret.releaseNeeded := by simp [State.sendExit]

@[simp] theorem State.sendExit_pendingWake (s : State) (n : Nat) :
    (s.sendExit n).ret.pendingWake = s.ret.pendingWake := by simp [State.sendExit]

@[simp] theorem State.sendExit_keptLanes (s : State) (n : Nat) :
    (s.sendExit n).ret.keptLanes = s.ret.keptLanes := by simp [State.sendExit]

@[simp] theorem State.sendExit_keptBands (s : State) (n : Nat) :
    (s.sendExit n).ret.keptBands = s.ret.keptBands := by simp [State.sendExit]

@[simp] theorem State.sendExit_deadline (s : State) (n : Nat) :
    (s.sendExit n).ret.deadline = some s.directiveDeadline := by
  simp [State.sendExit, State.directiveDeadline]

@[simp] theorem State.needRelease_releaseNeeded (s : State) :
    s.needRelease.ret.releaseNeeded = (s.ret.releaseNeeded || s.pins.slpReqHigh) := rfl

@[simp] theorem State.completeDrain_state (s : State) :
    s.completeDrain.ret.state = .entering := rfl

@[simp] theorem State.completeDrain_tiles (s : State) :
    s.completeDrain.tiles = dropTiles s.censusLanes s.censusBands s.tiles := by
  simp [State.completeDrain]

@[simp] theorem State.completeDrain_keptLanes (s : State) :
    s.completeDrain.ret.keptLanes = s.censusLanes := rfl

@[simp] theorem State.completeDrain_keptBands (s : State) :
    s.completeDrain.ret.keptBands = s.censusBands := rfl

@[simp] theorem State.completeDrain_deadline (s : State) :
    s.completeDrain.ret.deadline = some s.directiveDeadline := by
  simp [State.completeDrain, State.directiveDeadline]

@[simp] theorem Channel.examined_state (m : Mode) (n : Nat) (r : Channel) :
    (r.examined m n).state = r.state := rfl

@[simp] theorem Channel.examined_cursor (m : Mode) (n : Nat) (r : Channel) :
    (r.examined m n).cursor = r.cursor := rfl

@[simp] theorem Channel.examined_paused (m : Mode) (n : Nat) (r : Channel) :
    (r.examined m n).paused = r.paused := rfl

@[simp] theorem Channel.examined_skip (m : Mode) (n : Nat) (r : Channel) :
    (r.examined m n).skip = r.skip := rfl

@[simp] theorem Channel.examined_inFlight (m : Mode) (n : Nat) (r : Channel) :
    (r.examined m n).inFlight = r.inFlight := rfl

@[simp] theorem Channel.examined_asks (m : Mode) (n : Nat) (r : Channel) :
    (r.examined m n).asks = r.wants m n := rfl

end Sys2Proof.Machine
end

