-- ==== Sys2Proof/Laws/Ops.lean ====
section
/-! SUPPORT. One lemma for each shared operation that says what it does, in the terms statements are
made in, so that later proofs cite it and do not unfold the operation. -/

namespace Sys2Proof.Machine

/-! ### Sets -/

@[simp] theorem hasTag_addTag (o : HostTagSet) (t u : HostTag) :
    hasTag (addTag o t) u = (hasTag o u || decide (t = u)) := by
  unfold hasTag addTag
  rw [BitVec.getLsbD_or, BitVec.getLsbD_twoPow]
  simp [Fin.ext_iff]

@[simp] theorem hasTag_dropTag (o : HostTagSet) (t u : HostTag) :
    hasTag (dropTag o t) u = (hasTag o u && !decide (t = u)) := by
  unfold hasTag dropTag
  rw [BitVec.getLsbD_and, BitVec.getLsbD_not, BitVec.getLsbD_twoPow]
  simp [Fin.ext_iff]

/-- A tag added and dropped again leaves the set as it was, where it was no member. -/
theorem dropTag_addTag (o : HostTagSet) (t : HostTag) (h : hasTag o t = false) :
    dropTag (addTag o t) t = o := by
  unfold dropTag addTag hasTag at *
  apply BitVec.eq_of_getLsbD_eq
  intro i hi
  rw [BitVec.getLsbD_and, BitVec.getLsbD_or, BitVec.getLsbD_not, BitVec.getLsbD_twoPow]
  by_cases hh : t.val = i
  · subst hh; simp; simpa using h
  · simp [hh, hi]

/-- The fold behind `memberBits`, over any list of numbers below n. -/
theorem foldl_members_getLsbD {n : Nat} (p : Nat → Bool) (i : Nat) (hi : i < n) :
    ∀ (xs : List Nat) (acc : BitVec n),
      (xs.foldl (fun acc i => if p i then acc ||| BitVec.twoPow n i else acc) acc).getLsbD i =
        (acc.getLsbD i || (decide (i ∈ xs) && p i)) := by
  intro xs
  induction xs with
  | nil => intro acc; simp
  | cons x xs ih =>
    intro acc
    rw [List.foldl_cons, ih]
    by_cases hx : x = i
    · subst hx
      cases hp : p x <;> simp [hi]
    · have hx' : ¬ i = x := fun h => hx h.symm
      cases hp : p x <;> simp [hx, hx', BitVec.getLsbD_twoPow]

/-- Bit i of the set of numbers is the predicate at i. -/
@[simp] theorem memberBits_getLsbD (n : Nat) (p : Nat → Bool) (i : Nat) (hi : i < n) :
    (memberBits n p).getLsbD i = p i := by
  unfold memberBits
  rw [foldl_members_getLsbD p i hi]
  simp [hi]

/-! ### Data -/

@[simp] theorem fillBurst_getElem (w : BitVec 64) (i : Nat) (h : i < 64) :
    (fillBurst w)[i] = fillByte w (i % 8) := by simp [fillBurst]

@[simp] theorem mergeBurst_getElem (w : BitVec 64) (mask : ByteMask) (data : Burst) (i : Nat)
    (h : i < 64) :
    (mergeBurst w mask data)[i] = if mask.getLsbD i then data[i] else fillByte w (i % 8) := by
  simp only [mergeBurst, Vector.getElem_ofFn, Fin.getElem_fin]

@[simp] theorem dropTiles_getElem (lanes : LaneSet) (bands : BandSet) (v : Vector TileState 128)
    (t : Nat) (h : t < 128) :
    (dropTiles lanes bands v)[t] =
      if v[t] = .discarded ∧ keptTile lanes bands ⟨t, h⟩ = false then .void else v[t] := by
  simp [dropTiles]

@[simp] theorem bytesBE_length (n v : Nat) : (bytesBE n v).length = n := by
  induction n with
  | zero => rfl
  | succ n ih => simp [bytesBE, ih]

/-- An absent field is carried as zero bytes, which is the number 0 (spec/09 R184). -/
theorem optBytes_eq (n : Nat) (o : Option Nat) : optBytes n o = bytesBE n (o.getD 0) := by
  cases o with
  | some v => rfl
  | none =>
    simp only [optBytes, Option.getD_none]
    induction n with
    | zero => rfl
    | succ n ih => rw [List.replicate_succ, ih]; simp [bytesBE]

/-! ### The Tag Pool and the arbiter -/

/-- `noneInUse` says what its name says. -/
theorem noneInUse_iff (s : State) :
    s.noneInUse = true ↔ ∀ t : Tag, (s.tags[t]).isInUse = false := by
  simp [State.noneInUse]

/-- `noneInUse` fails exactly where some tag is IN_USE. -/
theorem noneInUse_false_iff (s : State) :
    s.noneInUse = false ↔ ∃ t : Tag, (s.tags[t]).isInUse = true := by
  rw [← not_iff_not]
  simp only [Bool.not_eq_false, noneInUse_iff]
  simp

/-- The tag that `lowestFree` names is FREE. -/
theorem free_of_lowestFree {s : State} {t : Tag} (h : s.lowestFree = some t) :
    s.tags[t] = .free := by
  have h1 := List.find?_some h
  cases h2 : s.tags[t] <;> simp [h2, TagEntry.isFree] at h1 ⊢

/-- No tag is named where none is FREE. -/
theorem lowestFree_eq_none {s : State} (h : ∀ t : Tag, s.tags[t] ≠ .free) :
    s.lowestFree = none := by
  simp only [State.lowestFree, List.find?_eq_none]
  intro t _
  have := h t
  rcases hh : s.tags[t] <;> simp_all [TagEntry.isFree]

/-- A tag is named where one is FREE. -/
theorem lowestFree_isSome {s : State} (h : ∃ t : Tag, s.tags[t] = .free) :
    s.lowestFree.isSome = true := by
  obtain ⟨t, h⟩ := h
  simp only [State.lowestFree, List.find?_isSome]
  exact ⟨t, List.mem_finRange t, by rw [h]; rfl⟩

/-- A grant is given only with a FREE tag and a link credit (spec/06 R132). -/
theorem grant_needs {s : State} {q : Requester} (h : s.grant = some q) :
    s.lowestFree.isSome = true ∧ 0 < s.link.credits ∧ s.arbiterChoice = some q := by
  unfold State.grant at h
  split at h
  · rename_i hc
    simp only [Bool.and_eq_true, decide_eq_true_eq] at hc
    exact ⟨hc.1, hc.2, h⟩
  · cases h

/-! ### Deadlines -/

/-- An entry's deadline does not lie before d. -/
theorem notBefore_deadline (d : Micros) (x : TagEntry) :
    notBefore d x.deadline = true ↔ ∀ o e, x = .inUse o e → d ≤ e := by
  cases x <;> simp [TagEntry.deadline, notBefore]

/-- The test the commands make and the law's predicate are one. -/
theorem noneBefore_iff (s : State) (d : Micros) :
    s.noneBefore d = true ↔ s.NoDeadlineBefore d := by
  have h : notBefore d s.ret.deadline = true ↔ ∀ e, s.ret.deadline = some e → d ≤ e := by
    cases s.ret.deadline <;> simp [notBefore]
  simp [State.noneBefore, State.NoDeadlineBefore, notBefore_deadline, h]

/-- The test fails exactly where the predicate does. -/
theorem noneBefore_false_iff (s : State) (d : Micros) :
    s.noneBefore d = false ↔ ¬ s.NoDeadlineBefore d := by
  rw [← noneBefore_iff]; simp

/-- A deadline that runs falls now where the clock has come to it and none lies before it. -/
theorem fallsNow_iff (s : State) (x : Option Micros) :
    s.fallsNow x = true ↔ ∃ d, x = some d ∧ d ≤ s.now ∧ s.NoDeadlineBefore d := by
  cases x <;> simp [State.fallsNow, noneBefore_iff]

/-- The tag whose deadline falls now has one that does. -/
theorem fallsNow_of_dueTag {s : State} {t : Tag} (h : s.dueTag = some t) :
    s.fallsNow s.tags[t].deadline = true := by
  have h1 := List.find?_some h
  exact h1

/-- With no tag due, no response deadline falls now. -/
theorem fallsNow_of_dueTag_none {s : State} (h : s.dueTag = none) (t : Tag) :
    s.fallsNow s.tags[t].deadline = false := by
  simp only [State.dueTag, List.find?_eq_none] at h
  simpa using h t (List.mem_finRange t)

/-- A take is due exactly where the head tile is QUEUED and an IDLE, unpaused channel is not stopped
(spec/03 R70). -/
theorem takeDue_iff (s : State) :
    s.takeDue = true ↔ ∃ t rest, s.fillQueue = t :: rest ∧ s.tiles[t] = .queued ∧
      (s.canTake .ch0 = true ∨ s.canTake .ch1 = true) := by
  unfold State.takeDue
  rcases s.fillQueue with _ | ⟨t, rest⟩ <;> simp

/-! ### The Fill Engine's lists -/

/-- The entry found in a list in strictly ascending offset order is the one that meets the test. -/
theorem find_flight {l : List FlightEntry} {e : FlightEntry} (he : e ∈ l)
    (hp : l.Pairwise fun x y => x.offset < y.offset) (p : FlightEntry → Bool) (h1 : p e = true)
    (h2 : ∀ x ∈ l, p x = true → x.offset = e.offset) : l.find? p = some e := by
  induction l with
  | nil => simp at he
  | cons a l ih =>
    rw [List.pairwise_cons] at hp
    rcases List.mem_cons.1 he with rfl | he'
    · simp [h1]
    · have hpa : p a = false := by
        by_contra hx
        have h3 := h2 a (by simp) (by simpa using hx)
        have h4 := hp.1 e he'
        omega
      rw [List.find?_cons, hpa]
      exact ih he' hp.2 fun x hx => h2 x (by simp [hx])

/-- The in-flight entry of a fill write that is downstream (spec/06 R138). -/
theorem flightOf_eq {s : State} {c : Chan} {o : Nat} {t : Tag} {a : Addr} {d : Micros}
    {e : FlightEntry} (h : s.FillDownstream c o t a d e) : (s.chan c).flightOf o t = some e := by
  obtain ⟨_, h2, h3, h4, h5⟩ := h
  refine find_flight h2 h5 _ (by simp [h3, h4]) ?_
  intro x _ hp
  simp at hp
  rw [hp.1, h3]

/-- No skip entry is found at an offset that none has. -/
theorem skipAt_eq_none {r : Channel} {o : Nat} (h : ∀ e ∈ r.skip, e.offset ≠ o) :
    r.skipAt o = none := by
  simpa [Channel.skipAt] using h

/-- The skip entry found at an offset is a member of the list with that offset. -/
theorem skipAt_some {r : Channel} {o : Nat} {e : SkipEntry} (h : r.skipAt o = some e) :
    e ∈ r.skip ∧ e.offset = o := by
  have h1 := List.find?_some h
  simp at h1
  exact ⟨List.mem_of_find?_eq_some h, h1⟩

/-- Whether the in-flight list holds an entry at an offset. -/
theorem flightAt_iff (r : Channel) (o : Nat) :
    r.flightAt o = true ↔ ∃ e ∈ r.inFlight, e.offset = o := by
  simp [Channel.flightAt]

/-- A new skip entry stands between the lower and the higher offsets (spec/03 R51). -/
theorem insertSkip_eq (n : SkipEntry) (xs : List SkipEntry)
    (hp : xs.Pairwise fun x y => x.offset < y.offset) (hn : ∀ e ∈ xs, e.offset ≠ n.offset) :
    insertSkip n xs =
      xs.filter (fun e => e.offset < n.offset) ++ [n] ++ xs.filter (fun e => n.offset < e.offset) := by
  induction xs with
  | nil => simp [insertSkip]
  | cons x xs ih =>
    obtain ⟨h1, h2⟩ := List.pairwise_cons.mp hp
    have hx0 := hn x (by simp)
    unfold insertSkip
    by_cases hx : n.offset < x.offset
    · have e1 : (x :: xs).filter (fun e => e.offset < n.offset) = [] := by
        simp
        refine ⟨by omega, fun e he => ?_⟩
        have := h1 e he
        omega
      have e2 : (x :: xs).filter (fun e => n.offset < e.offset) = x :: xs := by
        rw [List.filter_eq_self]
        intro e he
        rcases List.mem_cons.mp he with he | he
        · subst he; simpa using hx
        · have := h1 e he
          simp
          omega
      rw [e1, e2]
      simp [hx]
    · simp only [hx, if_false]
      rw [ih h2 fun e he => hn e (by simp [he])]
      have hx' : x.offset < n.offset := by omega
      simp [hx, hx']

/-- The outcome of a skip-linked write, in a list in strictly ascending order (spec/03 R52). -/
theorem settleSkip_eq (o : Nat) (t : Tag) (ok : Bool) (xs : List SkipEntry)
    (h : xs.Pairwise fun x y => x.offset < y.offset) :
    settleSkip o t ok xs =
      if ok then
        xs.map fun e =>
          if e.offset = o ∧ e.status = .issued t then { e with status := .confirmed } else e
      else xs.filter fun e => ¬ (e.offset = o ∧ e.status = .issued t) := by
  induction xs with
  | nil => cases ok <;> simp [settleSkip]
  | cons x xs ih =>
    obtain ⟨h1, h2⟩ := List.pairwise_cons.mp h
    have ih := ih h2
    unfold settleSkip
    by_cases hx : x.offset = o ∧ x.status = .issued t
    · have hno : ∀ e ∈ xs, e.offset ≠ o := by
        intro e he
        have := h1 e he
        omega
      cases ok
      · simp [hx]
        symm
        rw [List.filter_eq_self]
        intro e he
        simp [hno e he]
      · have hid : List.map (fun e : SkipEntry =>
            if e.offset = o ∧ e.status = .issued t then { e with status := .confirmed } else e) xs
              = xs := by
          conv_rhs => rw [← List.map_id xs]
          apply List.map_congr_left
          intro e he
          simp [hno e he]
        simp [hx]
        exact hid.symm
    · rw [if_neg hx, ih]
      cases ok
      · rw [if_neg (by simp), if_neg (by simp), List.filter_cons_of_pos (by rw [decide_eq_true_eq]; exact hx)]
      · simp [hx]

/-- ISSUED is the status that is not RETRY_WAIT. -/
theorem FlightEntry.isIssued_eq (e : FlightEntry) :
    e.isIssued = decide (e.status ≠ .retryWait) := by
  rcases e with ⟨_, _, st⟩
  cases st <;> simp [FlightEntry.isIssued]

/-- A channel that cancels awaits its ISSUED entries (spec/03 R76, R77). -/
theorem Channel.cancelled_eq (r : Channel) :
    r.cancelled = r.leaving (r.inFlight.filter fun e => e.status ≠ .retryWait) := by
  have hf : r.inFlight.filter FlightEntry.isIssued =
      r.inFlight.filter (fun e => decide (e.status ≠ .retryWait)) := by
    apply List.filter_congr
    intro e _
    exact e.isIssued_eq
  rw [Channel.cancelled, hf]
  generalize r.inFlight.filter (fun e => decide (e.status ≠ .retryWait)) = l
  by_cases h : l = [] <;> simp [Channel.settled, Channel.leaving, h]

/-- A CANCELLING channel that lost an entry (spec/03 R77). -/
theorem Channel.settled_eq_leaving (r : Channel) (l : List FlightEntry)
    (h : r.state = .cancelling) (hs : r.skip = []) :
    ({ r with inFlight := l } : Channel).settled = r.leaving l := by
  by_cases hl : l = [] <;> simp [Channel.settled, Channel.leaving, h, hs, hl]

/-- A channel that is not CANCELLING settles nothing. -/
theorem Channel.settled_eq_self (r : Channel) (h : r.state ≠ .cancelling) : r.settled = r := by
  simp [Channel.settled, h]

/-- A channel that is not FILLING asks for nothing (spec/03 R57). -/
theorem Channel.wants_eq_false (m : Mode) (n : Nat) (r : Channel) (h : ∀ t, r.state ≠ .filling t) :
    r.wants m n = false := by
  rcases hs : r.state with _ | t | _
  · simp [Channel.wants, Channel.isFilling, hs]
  · exact absurd hs (h t)
  · simp [Channel.wants, Channel.isFilling, hs]

/-- A claim of completion is made or nothing happens (spec/03 R67). -/
theorem tryComplete_cases (s : State) (c : Chan) :
    (∃ t, (s.chan c).state = .filling t ∧ s.tiles[t] = .filling c ∧
      (s.chan c).atEnd s.settings.burstCount = true ∧ s.control.mode ≠ .restarting ∧
      s.tryComplete c = ((s.setTile t .live).setChan c (s.chan c).finished).post
        { kind := .fillDone, tile := some t, chan := some c }) ∨
    s.tryComplete c = s := by
  unfold State.tryComplete
  split
  · rename_i t ht
    split
    · rename_i h
      exact .inl ⟨t, ht, h.2.2, h.1, h.2.1, rfl⟩
    · exact .inr rfl
  · exact .inr rfl
  · exact .inr rfl

/-! ### The host link -/

/-- Queued requests answered one after the other (spec/02 R25). -/
theorem respondAll_eq (st : HostStatus) (rs : List HostRequest) (s : State) :
    State.respondAll st rs s = { s with host := { s.host with
      outstanding := rs.foldl (fun o r => dropTag o r.tag) s.host.outstanding,
      sent := s.host.sent ++ rs.map fun r => .response r.tag st none } } := by
  induction rs generalizing s with
  | nil => simp [State.respondAll]
  | cons r rs ih => simp [State.respondAll, ih, State.respond]

/-- A flush (spec/02 R25): RESPONSEs in arrival order, then one CREDIT where any was queued. -/
theorem flush_eq (s : State) (st : HostStatus) (ho : s.host.owed = 0) :
    s.flush st = { s with
      requests := [],
      dispatch := { headClass := none, claim := none },
      host := { s.host with
        balance := s.host.balance + s.requests.length,
        outstanding := s.requests.foldl (fun o r => dropTag o r.tag) s.host.outstanding,
        sent := s.host.sent ++ (s.requests.map fun r => .response r.tag st none) ++
          (if s.requests.length = 0 then [] else [.credit s.requests.length]) } } := by
  rw [State.flush, respondAll_eq]
  rcases hr : s.requests with _ | ⟨r, rs⟩ <;> simp [State.returnCredits, HostLink.sendCredit, ho]

/-! ### The head -/

/-- Inside the managed window in ENGAGED the head is classified by its tile (spec/02 R32). -/
theorem classify_of_headAt {s : State} {r : HostRequest} {t : Tile} {o : Nat}
    (h : s.HeadAt r t o) :
    classify s r = classifyTile s t o r ∧ (∃ rest, s.requests = r :: rest) ∧
      s.dispatchRuns = true := by
  obtain ⟨h1, h2, h3, h4, h5, h6⟩ := h
  refine ⟨?_, ?_, ?_⟩
  · simp only [classify, h1]
    rw [if_neg (by simp), if_neg (by omega), h5, h6]
  · rcases hr : s.requests with _ | ⟨x, xs⟩
    · simp [hr] at h3
    · simp [hr] at h3
      exact ⟨xs, by rw [h3]⟩
  · simp [State.dispatchRuns, h1, h2, Mode.settled]

/-- A local answer leaves `afterAnswer`, with its notice posted (spec/02 R43). -/
theorem answerHead_eq (s : State) (r : HostRequest) (st : HostStatus) (data : Option Burst)
    (n : Option Notice) (ho : s.host.owed = 0) :
    s.answerHead r st data n = (s.postSome n).afterAnswer r st data := by
  cases n <;>
    simp [State.answerHead, State.postSome, State.afterAnswer, State.returnCredits,
      HostLink.sendCredit, State.respond, State.popHead, State.dropHead, State.post, ho]

/-- An issue of the head leaves `afterIssue`, with its effect on the tile or the skip list
(spec/02 R44). -/
theorem issueHead_eq (s : State) (r : HostRequest) (tag : Tag) (how : IssueForm)
    (ho : s.host.owed = 0) :
    s.issueHead r tag how =
      (s.afterIssue r tag how.link (how.body s.settings r.body)).issueEffect tag how := by
  rcases how with _ | t | ⟨c, o⟩ | ⟨c, o⟩ <;>
    simp [State.issueHead, State.passHead, State.issueEffect, State.afterIssue, State.chanAsks,
      State.returnCredits, HostLink.sendCredit, State.popHead, State.dropHead, State.issue, ho,
      State.overdueAt, State.setTile]
  all_goals split <;> (try simp_all) <;>
    (try (cases c <;> simp [State.setChan, State.chan, Channel.examined]))

/-! ### Retention and mode control -/

/-- A drain that is due starts, and otherwise nothing happens (spec/04 R84). -/
theorem startDrain_cases (s : State) :
    (s.drainDue = true ∧ s.startDrain.ret = { s.ret with state := .draining } ∧
      s.startDrain.dispatch = { headClass := none, claim := none } ∧
      ∀ c, s.startDrain.chan c =
        Channel.examined s.control.mode s.settings.burstCount { s.chan c with paused := true }) ∨
    (s.drainDue = false ∧ s.startDrain = s) := by
  unfold State.startDrain
  cases h : s.drainDue
  · exact .inr ⟨rfl, by simp⟩
  · refine .inl ⟨rfl, by simp, rfl, ?_⟩
    intro c
    cases c <;> rfl

/-- A drain whose conditions hold is completed, and otherwise nothing happens (spec/04 R86). -/
theorem settleDrain_cases (s : State) :
    (s.ret.state = .draining ∧ (∀ t : Tag, (s.tags[t]).isInUse = false) ∧
      s.control.mode.settled = true ∧ s.settleDrain = s.completeDrain) ∨
    ((s.ret.state ≠ .draining ∨ (∃ t : Tag, (s.tags[t]).isInUse = true) ∨
      s.control.mode.settled = false) ∧ s.settleDrain = s) := by
  unfold State.settleDrain
  cases h : s.drainDone
  · refine .inr ⟨?_, by simp⟩
    simp only [State.drainDone, Bool.and_eq_false_iff, decide_eq_false_iff_not] at h
    rcases h with (h | h) | h
    · exact .inl h
    · exact .inr (.inl ((noneInUse_false_iff s).1 h))
    · exact .inr (.inr h)
  · simp only [State.drainDone, Bool.and_eq_true, decide_eq_true_eq] at h
    exact .inl ⟨h.1.1, (noneInUse_iff s).1 h.1.2, h.2, by simp⟩

/-- `drainDone` and its three conditions are one (spec/04 R86). -/
theorem drainDone_iff (s : State) :
    s.drainDone = true ↔ s.ret.state = .draining ∧ (∀ t : Tag, (s.tags[t]).isInUse = false) ∧
      (s.control.mode = .bypass ∨ s.control.mode = .engaged) := by
  have hm : s.control.mode.settled = true ↔
      (s.control.mode = .bypass ∨ s.control.mode = .engaged) := by
    cases s.control.mode <;> simp [Mode.settled]
  simp [State.drainDone, noneInUse_iff, hm, and_assoc]

@[simp] theorem completeDrain_up (s : State) : s.completeDrain.link.up = s.link.up := by
  simp only [State.completeDrain, State.direct, MemLink.direct]
  split <;> rfl

/-- A done message is not taken before link-up; taken, it finds a drain whose completion is due
completed, and is matched in its retention state or a stray (spec/04 R86, R101). -/
theorem takeDone_cases (s : State) (wanted : RetState) (matched : State → State) :
    (s.link.up = false ∧ s.takeDone wanted matched = s) ∨
    (s.link.up = true ∧ s.drainDone = true ∧ s.takeDone wanted matched =
      if wanted = .entering then matched s.completeDrain
      else s.completeDrain.post { kind := .strayDirective }) ∨
    (s.link.up = true ∧ s.drainDone = false ∧ s.takeDone wanted matched =
      if s.ret.state = wanted then matched s else s.post { kind := .strayDirective }) := by
  unfold State.takeDone State.settleDrain State.strayDirective
  cases s.link.up <;> cases s.drainDone <;> simp [eq_comm]

/-! ### The management port -/

/-- `FrameOpen` and the test the port makes are one. -/
theorem frameOpen_iff (s : State) : s.frameOpen = true ↔ s.FrameOpen := by
  unfold State.frameOpen State.FrameOpen
  cases h : s.port.frame <;> simp

@[simp] theorem takenByte_status : Instr.status.takenByte = 1 := rfl
@[simp] theorem takenByte_result : Instr.result.takenByte = 1 := rfl
@[simp] theorem takenByte_get (i : Byte) : (Instr.get i).takenByte = 1 := rfl
@[simp] theorem takenByte_set (i : Byte) (v : BitVec 64) : (Instr.set i v).takenByte = 9 := rfl
@[simp] theorem takenByte_readTile (i : Byte) : (Instr.readTile i).takenByte = 1 := rfl
@[simp] theorem takenByte_readChannel (n : Byte) : (Instr.readChannel n).takenByte = 1 := rfl
@[simp] theorem takenByte_takeNotice : Instr.takeNotice.takenByte = 1 := rfl
@[simp] theorem takenByte_engage (o : Byte) : (Instr.engage o).takenByte = 1 := rfl
@[simp] theorem takenByte_disengage : Instr.disengage.takenByte = 1 := rfl
@[simp] theorem takenByte_discard (f l : Byte) : (Instr.discard f l).takenByte = 2 := rfl
@[simp] theorem takenByte_prepare (f l : Byte) : (Instr.prepare f l).takenByte = 2 := rfl
@[simp] theorem takenByte_adopt (f l : Byte) : (Instr.adopt f l).takenByte = 2 := rfl
@[simp] theorem takenByte_restart : Instr.restart.takenByte = 1 := rfl

/-- A command taken from an open frame: what it leaves, with its reply (spec/09 R176). -/
theorem takeCommand_eq {s : State} (h : s.FrameOpen) (t : Nat) (after : State)
    (reply : List Byte) : s.takeCommand t after reply = after.replied t reply := by
  simp [State.takeCommand, (frameOpen_iff s).2 h, State.setFrame, State.replied, Frame.accepted,
    takenFrame, acceptedByte]

/-- Outside an open frame no command is taken (spec/09 R174). -/
theorem takeCommand_of_not_open {s : State} (h : ¬ s.FrameOpen) (t : Nat) (after : State)
    (reply : List Byte) : s.takeCommand t after reply = s := by
  rw [← frameOpen_iff] at h
  simp [State.takeCommand, h]

/-- A long command turned away with BUSY (spec/09 R175, R178). -/
theorem takeLong_busy {s : State} (h : s.FrameOpen) (c : LongCmd) (t : Nat) (why : Option Reason)
    (acc : State) (hb : s.busyFor c = true) :
    s.takeLong c t why acc = { s with port := { s.port with
      frame := some { position := 1, decided := true, dataOut := [0x00, 0xB5] } } } := by
  simp [State.takeLong, (frameOpen_iff s).2 h, hb, State.setFrame, Frame.ignored, busyByte]

/-- A long command refused (spec/09 R185). -/
theorem takeLong_refused {s : State} (h : s.FrameOpen) (c : LongCmd) (t : Nat) (r : Reason)
    (acc : State) (hb : s.busyFor c = false) :
    s.takeLong c t (some r) acc = { s with port := { s.port with
      frame := some (takenFrame t [0x03, r.code]),
      result := { command := some c, outcome := .refused r, changed := 0, unchanged := 0 } } } := by
  simp [State.takeLong, (frameOpen_iff s).2 h, hb, takeCommand_eq h, State.replied,
    State.longReply, refusedRecord, LongOutcome.code, LongOutcome.reasonCode]

/-- A long command accepted (spec/09 R185). -/
theorem takeLong_accepted {s : State} (h : s.FrameOpen) (c : LongCmd) (t : Nat) (acc : State)
    (hb : s.busyFor c = false) :
    s.takeLong c t none acc = acc.replied t acc.longReply := by
  simp [State.takeLong, (frameOpen_iff s).2 h, hb, takeCommand_eq h]

/-! ### Every command completes -/

/-- No command ends in a fault or a refusal. -/
theorem exec_next (i : Instr) (s : State) : ∃ t, exec i s = .next t := by
  cases i <;> exact ⟨_, rfl⟩

/-- No step ends in a fault or a refusal. -/
theorem step_next (s : State) : ∃ t, step s = .next t := by
  unfold step
  split
  · split
    · exact exec_next _ _
    · exact ⟨_, rfl⟩
  · exact exec_next _ _

/-- With no drain due to complete, what comes before time passes is a deadline that falls now. -/
theorem dueCommand_cases (s : State) :
    (s.drainDone = true ∧ s.dueCommand = some .drainCompletion) ∨
    (s.drainDone = false ∧ s.dueCommand = s.dueTimeout) := by
  unfold State.dueCommand
  cases s.drainDone <;> simp

/-- A step is the front command, or with none waiting the event that is due (a drain's completion, or
a deadline that falls now), or a tick. -/
theorem step_cases {s t : State} (h : step s = .next t) :
    (∃ c rest, s.pending = c :: rest ∧ exec c { s with pending := rest } = .next t) ∨
    (∃ c, s.pending = [] ∧ s.dueCommand = some c ∧ exec c s = .next t) ∨
    (s.pending = [] ∧ s.dueCommand = none ∧ t = s.tick) := by
  unfold step at h
  split at h
  · rename_i hp
    split at h
    · rename_i c hc
      exact .inr (.inl ⟨c, hp, hc, h⟩)
    · rename_i hc
      exact .inr (.inr ⟨hp, hc, by injection h with h; exact h.symm⟩)
  · rename_i c rest hp
    exact .inl ⟨c, rest, hp, h⟩

end Sys2Proof.Machine
end

