-- ==== Sys2Proof/Tests/Slice0.lean ====
section
/-! SUPPORT. Tests: the check of WellFormed.lean refusing an ill-formed command, small tests of one
command each with the results the worked sequences and tables of spec/ give, and for each statement
with hypotheses a witness that meets them, clause by clause. -/

namespace Sys2Proof.Tests

open Sys2Proof.Machine

/-! ### Helpers -/

/-- The state a command leaves. -/
def after (i : Instr) (s : State) : State :=
  match exec i s with
  | .next t => t
  | .fault _ => s
  | .refused _ => s

/-- A burst of zeros. -/
def zeros : Burst := Vector.replicate 64 0

/-- A read from a start beat of 0. -/
def rd (t : HostTag) (a : Addr) : HostRequest := { tag := t, addr := a, body := .read 0 }

/-- A full write of zeros. -/
def wr (t : HostTag) (a : Addr) : HostRequest :=
  { tag := t, addr := a, body := .write (BitVec.allOnes 64) zeros }

/-- Both links up, 10 link credits, BYPASS. -/
def ready : State :=
  { State.reset with
    host := { HostLink.reset with up := true, balance := 16 },
    link := { MemLink.reset with up := true, credits := 10 } }

/-- ENGAGED, every tile VOID. -/
def engaged : State :=
  { ready with
    tiles := Vector.replicate 128 .void,
    control := { mode := .engaged, walk := none } }

/-- The same with one request, the head. -/
def engagedHead (r : HostRequest) : State :=
  { engaged with
    host := { engaged.host with balance := 15, outstanding := addTag 0 r.tag }, requests := [r] }

/-- A channel FILLING tile 9, with its request standing where `asks` says so. -/
def filling (cursor : Nat) (skip : List SkipEntry) (inFlight : List FlightEntry) (asks : Bool) :
    Channel :=
  { state := .filling 9, cursor := cursor, paused := false, skip := skip, inFlight := inFlight,
    asks := asks }

/-- A frame in which a command is still to be taken. -/
def inFrame (s : State) : State :=
  { s with pins := { s.pins with csLow := true }, port := { s.port with frame := some Frame.begun } }

/-- An engaged state with a fill, its downstream writes and a queued request: tile 9 FILLING on
channel 0 at cursor 2 with burst 1 in flight under tag 0 and host writes at 4 (downstream under tag
1) and 7 (confirmed); tile 5 QUEUED, 12 LIVE, 13 DISCARDED, 14 FAILED; host tag 2 queued and host
tag 7 downstream. -/
def mixed : State :=
  { engaged with
    tiles := (((((Vector.replicate 128 TileState.void).set 9 (.filling .ch0)).set 5 .queued).set 12
      .live).set 13 .discarded).set 14 .failed,
    fillQueue := [5],
    chan0 := filling 2 [⟨4, .issued 1⟩, ⟨7, .confirmed⟩] [⟨1, .first, .issued 0⟩] true,
    requests := [rd 2 0x04001080],
    host := { engaged.host with balance := 15, outstanding := addTag (addTag 0 2) 7 },
    tags := ((Vector.replicate 48 TagEntry.free).set 0 (.inUse (.fill 0x04001040 .ch0 1) 256)).set 1
      (.inUse (.host .write 0x04001100 7 (some ⟨.ch0, 4⟩)) 256) }

/-! ### Well-formedness and decoding -/

theorem test_unknown_code_of_a_command_is_ill_formed :
    (Instr.unknownCommand 0x10).wellFormed = false := by decide

theorem test_unknown_code_is_well_formed : (Instr.unknownCommand 0x99).wellFormed = true := by
  decide

theorem test_no_word_spells_a_command (n w : Nat) : decodeTableWord n w = none := rfl

/-- Section 9.6, worked exchange, frame 1: 0x23, 40, 47 on data in is PREPARE of tiles 40 to 47. -/
theorem test_frame_bytes_spell_prepare :
    frameCommands [0x23, 40, 47] = [.frameBegin, .prepare 40 47, .frameEnd] := by decide

/-- R195, R196: SET of RESP_TIMEOUT to 4,096, most significant byte first. -/
theorem test_frame_bytes_spell_set :
    frameCommands [0x13, 0x07, 0, 0, 0, 0, 0, 0, 0x10, 0x00] =
      [.frameBegin, .set 0x07 4096, .frameEnd] := by decide

/-- R176, R177: STATUS is taken at the end of frame byte 1, and a frame of one byte is abandoned. -/
theorem test_short_frame_is_abandoned :
    frameCommands [0x10] = [.frameBegin, .frameAbandon] ∧
      frameCommands [0x10, 0xEE] = [.frameBegin, .status, .frameEnd] := by decide

theorem test_fetch_word_changes_nothing : ready.withFetchWord 16 0x1234 = ready := rfl

/-! ### The host link -/

theorem test_request_without_credit_posts_overrun :
    (after (.request (rd 2 0x04001080)) { ready with host := { ready.host with balance := 0 } }
      ).notices.records.map (fun r => r.notice.kind) = [.creditOverrun] := by decide

theorem test_host_link_up_grants_sixteen :
    (after .hostLinkUp State.reset).host.sent = [.credit 16] := by decide

/-! ### Addresses (spec/11 section 11.1) -/

theorem test_address_decomposes :
    tileOfAddr Settings.defaults 0x04001140 = 9 ∧ offsetOfAddr Settings.defaults 0x04001140 = 5 := by
  decide

theorem test_last_burst_address : fillAddr Settings.defaults 9 131071 = 0x07FF9FC0 := by decide


/-! ### The memory link -/

theorem test_memory_link_up_carries_held_directive :
    (after .memoryLinkUp { State.reset with link := { MemLink.reset with held := [.retainExit] } }
      ).link.sent = [.retainExit] := by decide

theorem test_credit_saturates :
    (after (.credit 10) { ready with link := { ready.link with credits := 250 } }).link.credits =
      255 := by decide

/-- Section 11.1, step 6: OK for the recorded write confirms its entry. -/
theorem test_response_confirms_skip_entry :
    (after (.response 1 .ok zeros) mixed).chan0.skip = [⟨4, .confirmed⟩, ⟨7, .confirmed⟩] := by
  decide

/-- Section 11.4, step 1: a first ERROR leaves the entry to be retried. -/
theorem test_response_error_of_fill_write_is_retried :
    (after (.response 0 .error zeros) mixed).chan0.inFlight = [⟨1, .second, .retryWait⟩] := by
  decide

/-- R139: the host is answered TIMEOUT, and the tag is quarantined. -/
theorem test_response_timeout_answers_timeout :
    (after (.responseTimeout 1) mixed).host.sent = [.response 7 .timeout none] ∧
    (after (.responseTimeout 1) mixed).quarantinedCount = 1 := by decide

/-- `mixed` with the deadline of the host write under tag 1 at 300, after that of tag 0. -/
def laterDeadline : State :=
  { mixed with tags := mixed.tags.set 1 (.inUse (.host .write 0x04001100 7 (some ⟨.ch0, 4⟩)) 300) }

/-- R213: with nothing waiting, the deadline passes when the clock has come to it. -/
theorem test_idle_step_passes_the_deadline :
    step { mixed with now := 256 } = exec (.fillWriteTimeout 0) { mixed with now := 256 } := rfl

/-- R213: a deadline does not pass before an earlier one. -/
theorem test_later_deadline_does_not_pass_first :
    (after (.responseTimeout 1) laterDeadline).quarantinedCount = 0 := by decide

theorem test_response_timeout_removes_skip_entry :
    (after (.responseTimeout 1) mixed).chan0.skip = [⟨7, .confirmed⟩] := by decide

theorem test_fill_write_timeout_posts_then_retries :
    (after (.fillWriteTimeout 0) mixed).notices.records.map (fun r => r.notice.kind) =
      [.responseTimeout, .fillRetry] := by decide

/-! ### Retention (spec/11 section 11.3) -/

/-- Section 11.3 before step 5: ENTERING with SLP_REQ high. -/
def entering : State :=
  { engaged with
    pins := { engaged.pins with slpReqHigh := true },
    ret := { Retention.reset with state := .entering, keptLanes := 0x12, keptBands := 0x8002,
                                  deadline := some 8000 },
    chan0 := { Channel.reset with paused := true }, chan1 := { Channel.reset with paused := true } }

/-- Section 11.3 after step 5. -/
def retained : State := after .enterDone entering

/-- Section 11.3 after step 6. -/
def exiting : State := after (.request (rd 15 0x04001000)) retained

theorem test_enter_done_raises_ack :
    retained.ret.state = .retained ∧ retained.ret.slpAck = true := by decide

theorem test_retained_request_starts_exit :
    exiting.ret.state = .exiting ∧ exiting.ret.exitAttempts = 1 ∧ exiting.ret.slpAck = true ∧
      exiting.ret.releaseNeeded = true := by decide

/-- Section 11.3, step 7: ACTIVE, SLP_ACK low, release-needed still set. -/
theorem test_exit_done_is_active :
    (after .exitDone exiting).ret.state = .active ∧ (after .exitDone exiting).ret.slpAck = false ∧
      (after .exitDone exiting).ret.releaseNeeded = true := by decide

theorem test_entry_timeout_sends_exit :
    (after .entryTimeout entering).link.sent = [.retainExit] ∧
      (after .entryTimeout entering).ret.state = .exiting := by decide

theorem test_exit_timeout_counts_two :
    (after .exitTimeout exiting).ret.exitAttempts = 2 := by decide

theorem test_halt_flushes_refused :
    (after .halt (after .exitTimeout exiting)).host.sent =
      [.response 15 .refused none, .credit 1] := by decide

theorem test_slp_req_rise_starts_drain :
    (after .slpReqRise mixed).ret.state = .draining ∧ (after .slpReqRise mixed).chan0.paused = true := by
  decide

theorem test_slp_req_fall_aborts_drain :
    (after .slpReqFall (after .slpReqRise mixed)).ret.state = .active := by decide

/-- Section 11.3: the tiles of the table, drained. -/
def drained : State :=
  { engaged with
    pins := { engaged.pins with slpReqHigh := true },
    settings := { Settings.defaults with floorBands := 0x8000 },
    tiles := ((((((engaged.tiles.set 9 .live).set 12 (.filling .ch0)).set 21 .discarded).set 33
      .discarded).set 60 .discarded).set 77 .failed).set 124 .discarded,
    chan0 := { filling 90 [] [⟨81, .second, .retryWait⟩] false with
      state := .filling 12, paused := true },
    chan1 := { Channel.reset with paused := true },
    ret := { Retention.reset with state := .draining } }

theorem test_drain_completion_kept_sets :
    (after .drainCompletion drained).link.sent = [.retainEnter 0x12 0x8002] := by decide

theorem test_drain_completion_drops :
    (after .drainCompletion drained).tiles[33] = .void ∧
      (after .drainCompletion drained).tiles[124] = .discarded := by decide

/-- An idle step completes a drain that is due before it counts time (R86). -/
theorem test_idle_step_completes_drain :
    ∃ t, step drained = .next t ∧ t.ret.state = .entering ∧ t.now = drained.now :=
  ⟨_, rfl, by decide, by decide⟩

/-- The completion of a drain comes before a done message (R86, R101). -/
theorem test_drain_completes_before_done_message :
    (after .exitDone drained).ret.state = .entering ∧
      (after .enterDone drained).ret.state = .retained := by decide

theorem test_hard_reset_clears_tiles :
    (after .hardReset mixed).tiles[9] = .untracked ∧ (after .hardReset mixed).inUseCount = 0 := by
  decide

theorem test_hard_reset_end_asserts_ready :
    (after .hardResetEnd (after .hardReset mixed)).pins.hostReady = true := by decide

/-! ### Dispatch (spec/11 section 11.1) -/

/-- Section 11.1: the head of step 1 claims a fill start on channel 0. -/
def claimed : State := after .headClassification (engagedHead (wr 1 0x04001040))

/-- Section 11.1, step 1, after the fill start and the second classification. -/
def started : State := after .headClassification (after .fillStart claimed)

theorem test_head_write_to_void_tile_claims_fill_start :
    claimed.dispatch.claim = some (.fillStart 9 .ch0) := by decide

theorem test_head_read_ahead_of_cursor_is_answered_locally :
    (after .headClassification mixed).host.sent =
      [.response 2 .okay (some (fillBurst 0)), .credit 1] := by decide

theorem test_fill_start_makes_tile_filling :
    (after .fillStart claimed).tiles[9] = .filling .ch0 ∧
      (after .fillStart claimed).chan0.asks = true := by decide

/-- Section 11.1, step 1: issued under tag 0 with an entry at offset 1, and the count is 1. -/
theorem test_head_grant_records_write :
    (after .headGrant started).chan0.skip = [⟨1, .issued 0⟩] ∧
      (after .headGrant started).link.fillPass = 1 := by decide

/-- Both channels FILLING, and the head a write to VOID tile 9. -/
def bothBusy : State :=
  { engagedHead (wr 1 0x04001040) with
    chan0 := { filling 5 [] [] true with state := .filling 20 },
    chan1 := { filling 5 [] [] true with state := .filling 21 } }

theorem test_queue_at_head_queues_tile :
    (after .queueAtHead (after .headClassification bothBusy)).fillQueue = [9] ∧
      (after .queueAtHead (after .headClassification bothBusy)).tiles[9] = .queued := by decide

theorem test_promotion_moves_tile_to_head :
    (after .promotion
      { engaged with tiles := engaged.tiles.set 9 .queued, fillQueue := [4, 9],
                     dispatch := { headClass := some .wait, claim := some (.promotion 9) } }
      ).fillQueue = [9, 4] := by decide

/-! ### The Fill Engine -/

/-- R58, R134: the cursor burst goes out and the cursor advances. -/
theorem test_channel_grant_issues_cursor_burst :
    (after (.channelGrant .ch0) { mixed with requests := [] }).chan0.cursor = 3 ∧
      (after (.channelGrant .ch0) { mixed with requests := [] }).link.lastGranted = .ch0 := by decide

theorem test_take_takes_queue_head :
    (after (.take .ch1) mixed).tiles[5] = .filling .ch1 ∧ (after (.take .ch1) mixed).fillQueue = [] := by
  decide

/-- Section 11.2, step 4: the CONFIRMED entry is removed and the cursor becomes 201. -/
theorem test_cursor_steps_over_confirmed :
    (after (.cursorStep .ch0)
      { mixed with chan0 := filling 200 [⟨200, .confirmed⟩, ⟨201, .confirmed⟩] [] false }
      ).chan0.cursor = 201 := by decide

/-! ### The management port (spec/09 R195, R196) -/

/-- Data out of a frame after a command. -/
def dataOut (i : Instr) (s : State) : List Byte :=
  match (after i (inFrame s)).port.frame with
  | none => []
  | some f => f.dataOut

theorem test_status_reply :
    dataOut .status mixed = [0x00, 0x5A, 2, 0, 0, 1, 1, 0, 1, 0, 0, 0, 2, 0] := by decide

theorem test_result_after_reset : dataOut .result ready = [0x00, 0x5A, 0, 2, 0, 0, 0] := by decide

theorem test_get_resp_timeout :
    dataOut (.get 0x07) ready = [0x00, 0x5A, 0, 0, 0, 0, 0, 0, 0, 1, 0] := by decide

theorem test_set_above_range_is_refused :
    dataOut (.set 0x06 16) ready = [0x00, 0x5A, 0, 0, 0, 0, 0, 0, 0, 0, 3] := by decide

theorem test_set_capacity_in_engaged_is_refused :
    dataOut (.set 0x01 0) engaged = [0x00, 0x5A, 0, 0, 0, 0, 0, 0, 0, 0, 1] := by decide

theorem test_read_tile_filling : dataOut (.readTile 9) mixed = [0x00, 0x5A, 0, 3, 0] := by decide

theorem test_read_channel_filling :
    dataOut (.readChannel 0) mixed = [0x00, 0x5A, 0, 1, 9, 0, 0, 2, 2, 1, 0] := by decide

theorem test_take_notice_fill_done :
    dataOut .takeNotice (ready.post { kind := .fillDone, tile := some 9, chan := some .ch0 }) =
      [0x00, 0x5A, 1, 0, 0, 0, 0, 6, 0x09, 9, 0, 0, 0, 0, 0, 0, 0, 0, 0, 0] := by decide

theorem test_unknown_command_reply : dataOut (.unknownCommand 0x99) ready = [0x00, 0xC3] := by decide

theorem test_frame_begin_opens_frame :
    (after .frameBegin ready).port.frame = some Frame.begun := by decide

theorem test_frame_end_closes_frame : (after .frameEnd (inFrame ready)).port.frame = none := by
  decide

theorem test_frame_abandon_closes_frame :
    (after .frameAbandon (inFrame ready)).port.frame = none := by decide

/-! ### Long commands -/

theorem test_engage_reply : dataOut (.engage 1) ready = [0x00, 0x5A, 1, 0] := by decide

theorem test_engage_walk_claim_takes_tile_0 :
    (after .engageWalkClaim (after (.engage 1) (inFrame ready))).tiles[0] = .void := by decide

theorem test_disengage_cancels_fill :
    (after .disengage (inFrame mixed)).chan0.state = .cancelling ∧
      (after .disengage (inFrame mixed)).tiles[5] = .void := by decide

theorem test_disengage_end_is_bypass :
    (after .disengageEnd { ready with control := { mode := .disengaging, walk := none } }
      ).control.mode = .bypass := by decide

theorem test_restart_flushes_aborted :
    (after .restart (inFrame mixed)).host.sent = [.response 2 .aborted none, .credit 1] := by decide

theorem test_restart_clear_clears_tiles :
    (after .restartClear
      { mixed with tags := Vector.replicate 48 .free,
                   control := { mode := .restarting, walk := none } }).tiles[9] = .untracked := by
  decide

theorem test_discard_is_accepted : dataOut (.discard 12 13) mixed = [0x00, 0x5A, 0, 1, 0] := by
  decide

/-- Section 11.4, step 7: the claim finds FAILED and makes the tile VOID. -/
theorem test_discard_claim_of_failed_tile :
    (after .discardClaim (after (.discard 14 14) (inFrame mixed))).tiles[14] = .void := by decide

theorem test_prepare_out_of_range : dataOut (.prepare 5 128) mixed = [0x00, 0x5A, 0, 3, 3] := by
  decide

/-- R119: the walk's claim comes after the take of the queued tile. -/
theorem test_prepare_claim_waits_for_the_take :
    (after .prepareClaim (after (.prepare 20 20) (inFrame mixed))).fillQueue = [5] := by decide

theorem test_prepare_claim_queues_at_tail :
    (after .prepareClaim (after (.take .ch1) (after (.prepare 20 20) (inFrame mixed)))).fillQueue =
      [20] := by decide

theorem test_adopt_is_accepted : dataOut (.adopt 13 20) mixed = [0x00, 0x5A, 0, 1, 0] := by decide

theorem test_adopt_claim_of_discarded_tile :
    (after .adoptClaim (after (.adopt 13 20) (inFrame mixed))).tiles[13] = .live := by decide

/-! ### Witnesses: states and operands that meet the statements' hypotheses

Each theorem is named after its statement and holds one conjunct for each clause, at the boundary of
the clause's range where it has one. -/

/-- `mixed` with a command waiting. -/
def mixedStep : State := { mixed with pending := [.channelGrant .ch0] }

/-- No running deadline lies before d, by the test the commands make. -/
theorem noDeadline {s : State} {d : Micros} (h : s.noneBefore d = true) : s.NoDeadlineBefore d :=
  (noneBefore_iff s d).1 h

/-- Some running deadline lies before d. -/
theorem someDeadline {s : State} {d : Micros} (h : s.noneBefore d = false) :
    ¬ s.NoDeadlineBefore d := (noneBefore_false_iff s d).1 h

/-- `mixed` when the clock has come to its two deadlines. -/
def atDeadline : State := { mixed with now := 256 }

/-- The same with the fill write under tag 0 due only later. -/
def atHostDeadline : State :=
  { atDeadline with tags := mixed.tags.set 0 (.inUse (.fill 0x04001040 .ch0 1) 300) }

/-- A directive deadline at the clock's instant. -/
def atDirective (s : State) : State := { s with now := (s.ret.deadline).getD 0 }

/-- EXITING at attempt 2, with one request queued. -/
def secondExit : State := after .exitTimeout exiting

theorem test_witness_StepRunsTheFrontCommand :
    mixedStep.pending = [.channelGrant .ch0] ∧
    (drained.pending = [] ∧ drained.ret.state = .draining ∧
      (∀ t : Tag, (drained.tags[t]).isInUse = false) ∧ drained.control.mode = .engaged) ∧
    (mixed.pending = [] ∧ mixed.ret.state ≠ .draining ∧
      mixed.NoDeadlineBefore (mixed.now + 1)) ∧
    (atDeadline.pending = [] ∧ atDeadline.ClockLaw ∧
      (∀ u : Tag, u < 0 → ∀ o, atDeadline.tags[u] ≠ .inUse o atDeadline.now) ∧
      atDeadline.tags[(0 : Tag)] = .inUse (.fill 0x04001040 .ch0 1) atDeadline.now) ∧
    (atHostDeadline.pending = [] ∧ atHostDeadline.ClockLaw ∧
      (∀ u : Tag, u < 1 → ∀ o, atHostDeadline.tags[u] ≠ .inUse o atHostDeadline.now) ∧
      atHostDeadline.tags[(1 : Tag)] =
        .inUse (.host .write 0x04001100 7 (some ⟨.ch0, 4⟩)) atHostDeadline.now) ∧
    (∀ x ∈ [entering, exiting, secondExit], (atDirective x).pending = [] ∧
      (atDirective x).ret.deadline = some (atDirective x).now ∧
      (∀ u : Tag, (atDirective x).tags[u] = .free)) ∧
    (atDirective entering).ClockLaw ∧ (atDirective exiting).ClockLaw ∧
      (atDirective secondExit).ClockLaw ∧
    (atDirective entering).ret.state = .entering ∧
    ((atDirective exiting).ret.state = .exiting ∧ (atDirective exiting).ret.exitAttempts = 1) ∧
    ((atDirective secondExit).ret.state = .exiting ∧
      (atDirective secondExit).ret.exitAttempts = 2) := by
  refine ⟨rfl, ⟨rfl, rfl, by decide, rfl⟩, ⟨rfl, by decide, noDeadline (by decide)⟩,
    ⟨rfl, noDeadline (by decide), fun u hu => absurd hu (by simp), rfl⟩,
    ⟨rfl, noDeadline (by decide), ?_, rfl⟩, by decide, noDeadline (by decide),
    noDeadline (by decide), noDeadline (by decide), by decide, by decide, by decide⟩
  intro u hu o h
  have hu0 : u = 0 := Fin.ext (Nat.lt_one_iff.1 hu)
  subst hu0
  have h := congrArg TagEntry.deadline h
  revert h
  show ¬ (some 300 = some 256)
  decide

theorem mixed_step_next : ∃ t, step mixedStep = .next t := ⟨_, rfl⟩

theorem test_witness_StepKeepsCreditLaw :
    mixedStep.CreditLaw ∧ ∃ t, step mixedStep = .next t :=
  ⟨by unfold State.CreditLaw; decide, mixed_step_next⟩

/-- The tags of `mixed` that are IN_USE for a host. -/
theorem mixed_issuedFor (t : Tag) (h : HostTag) (ht : mixedStep.issuedFor t h) : t = 1 ∧ h = 7 := by
  obtain ⟨k, a, l, d, he⟩ := ht
  have key : ∀ u : Tag, u ≠ 0 → u ≠ 1 → mixedStep.tags[u] = .free := by decide
  by_cases h0 : t = 0
  · subst h0; cases he
  · by_cases h1 : t = 1
    · subst h1; cases he; exact ⟨rfl, rfl⟩
    · rw [key t h0 h1] at he; cases he

theorem test_witness_StepKeepsHostTagLaw :
    mixedStep.HostTagLaw ∧ ∃ t, step mixedStep = .next t := by
  refine ⟨⟨?_, by decide, ?_, ?_⟩, mixed_step_next⟩
  · intro h
    have key : ∀ h : HostTag, hasTag mixedStep.host.outstanding h = true ↔
        h ∈ mixedStep.requests.map HostRequest.tag ∨ h = 7 := by decide
    rw [key]
    refine or_congr Iff.rfl ⟨?_, fun ⟨t, ht⟩ => (mixed_issuedFor t h ht).2⟩
    rintro rfl
    exact ⟨1, .write, _, _, _, rfl⟩
  · intro t h ht
    obtain ⟨rfl, rfl⟩ := mixed_issuedFor t h ht
    decide
  · intro t u h ht hu
    rw [(mixed_issuedFor t h ht).1, (mixed_issuedFor u h hu).1]

theorem mixed_handshakeLaw : mixedStep.HandshakeLaw :=
  ⟨by decide, by decide, by decide, by decide, by decide, rfl, by decide⟩

theorem test_witness_StepKeepsNoticeAndLinkLaws :
    mixedStep.NoticeLaw ∧ mixedStep.LinkLaw ∧ mixedStep.HandshakeLaw ∧ mixedStep.ClockLaw ∧
      ∃ t, step mixedStep = .next t :=
  ⟨by unfold State.NoticeLaw; decide, by unfold State.LinkLaw Settings.InRange; decide,
    mixed_handshakeLaw, noDeadline (by decide), mixed_step_next⟩

theorem mixed_modeLaw : mixedStep.ModeLaw :=
  ⟨by decide, by decide, by show ∀ t : Tile, mixedStep.tiles[t] ≠ .untracked; decide⟩

theorem mixed_trackingLaw : mixedStep.TrackingLaw := by
  refine ⟨⟨by decide, by decide⟩, ?_, ?_, ?_, mixed_modeLaw⟩
  · intro c t
    cases c
    · revert t; decide
    · revert t; decide
  · intro c
    cases c
    · exact ⟨by decide, by decide, by decide, by decide, by decide, by decide, by decide⟩
    · exact ⟨by decide, by decide, by decide, by decide, by decide, by decide⟩
  · intro c
    cases c <;> decide

theorem test_witness_StepKeepsTrackingLaw :
    mixedStep.TrackingLaw ∧ ∃ t, step mixedStep = .next t := ⟨mixed_trackingLaw, mixed_step_next⟩

theorem mixed_tagLaw : mixedStep.TagLaw := by
  have key : ∀ u : Tag, u ≠ 0 → u ≠ 1 → mixedStep.tags[u] = .free := by decide
  refine ⟨?_, ?_⟩
  · intro c o t
    constructor
    · rintro ⟨a, d, he⟩
      by_cases h0 : t = 0
      · subst h0; cases he; exact ⟨⟨1, .first, .issued 0⟩, by decide, rfl, rfl⟩
      · by_cases h1 : t = 1
        · subst h1; cases he
        · rw [key t h0 h1] at he; cases he
    · rintro ⟨e, he, rfl, hs⟩
      cases c
      · have he : e ∈ [(⟨1, .first, .issued 0⟩ : FlightEntry)] := he
        simp at he
        subst he
        cases hs
        exact ⟨_, _, rfl⟩
      · have he : e ∈ ([] : List FlightEntry) := he
        simp at he
  · intro c e he t hs
    cases c
    · have he : e ∈ [(⟨4, .issued 1⟩ : SkipEntry), ⟨7, .confirmed⟩] := he
      simp at he
      rcases he with rfl | rfl
      · cases hs; exact ⟨_, _, _, _, rfl⟩
      · cases hs
    · have he : e ∈ ([] : List SkipEntry) := he
      simp at he

theorem test_witness_StepKeepsTagLaw :
    mixedStep.TrackingLaw ∧ mixedStep.TagLaw ∧ ∃ t, step mixedStep = .next t :=
  ⟨mixed_trackingLaw, mixed_tagLaw, mixed_step_next⟩

theorem test_witness_StepKeepsHandshakeLaw :
    mixedStep.HandshakeLaw ∧ ∃ t, step mixedStep = .next t := ⟨mixed_handshakeLaw, mixed_step_next⟩

theorem mixed_retentionLaw : mixedStep.RetentionLaw :=
  ⟨fun c => by cases c <;> decide, by decide, by decide, by decide⟩

theorem test_witness_StepKeepsRetentionLaw :
    mixedStep.TrackingLaw ∧ mixedStep.RetentionLaw ∧ ∃ t, step mixedStep = .next t :=
  ⟨mixed_trackingLaw, mixed_retentionLaw, mixed_step_next⟩

theorem mixed_portLaw : mixedStep.PortLaw :=
  ⟨by decide, by decide, by decide, by decide, by decide, by decide, fun w h => by cases h⟩

theorem test_witness_StepKeepsPortLaw : mixedStep.PortLaw ∧ ∃ t, step mixedStep = .next t :=
  ⟨mixed_portLaw, mixed_step_next⟩

/-- `mixed` with RST_N low, and its rise waiting. -/
def lowReset : State := { after .hardReset mixed with pending := [.hardResetEnd] }

theorem test_witness_StepKeepsResetLaw :
    lowReset.pins.inReset = true ∧ lowReset.ResetLaw ∧ ∃ t, step lowReset = .next t :=
  ⟨rfl, fun _ => ⟨rfl, rfl, rfl, rfl, rfl, rfl, rfl, rfl, rfl, rfl, rfl, rfl, rfl, rfl, rfl, rfl⟩,
    ⟨_, rfl⟩⟩

theorem test_witness_SettingsChangeOnlyBySetAndHardReset :
    ∃ t, exec (.set 0x06 15) (inFrame mixed) = .next t ∧
      t.settings ≠ (inFrame mixed).settings := ⟨_, rfl, by decide⟩

theorem test_witness_TileBecomesFillingOnlyByStartOrTake :
    ∃ t, exec (.take .ch1) mixed = .next t ∧ mixed.tiles[(5 : Tile)] ≠ .filling .ch1 ∧
      t.tiles[(5 : Tile)] = .filling .ch1 := ⟨_, rfl, by decide, by decide⟩

theorem test_witness_RequestsLeaveOnlyAtGrants :
    (∀ m ∈ mixed.link.held, m.isRequest = false) ∧
      ∃ t, exec (.channelGrant .ch0) mixed = .next t ∧ t.link.sent.length = 1 :=
  ⟨by decide, _, rfl, by decide⟩

theorem test_witness_ResponsesPrecedeTheCredit :
    mixedStep.CreditLaw ∧ ∃ t, exec .headClassification mixedStep = .next t ∧
      t.host.sent.length = 2 :=
  ⟨test_witness_StepKeepsCreditLaw.1, _, rfl, by decide⟩

theorem test_witness_ModeChangesFollowTheTable :
    mixedStep.ModeLaw ∧ mixedStep.PortLaw ∧ ∃ t, exec .hardReset mixedStep = .next t ∧
      t.control.mode ≠ mixedStep.control.mode :=
  ⟨mixed_modeLaw, mixed_portLaw, _, rfl, by decide⟩

theorem entering_retentionLaw : entering.RetentionLaw :=
  ⟨fun c => by cases c <;> decide, by decide, by decide, by decide⟩

theorem drained_retentionLaw : drained.RetentionLaw :=
  ⟨fun c => by cases c <;> decide, by decide, by decide, by decide⟩

theorem drained_modeLaw : drained.ModeLaw := by
  refine ⟨by decide, by decide, ?_⟩
  show ∀ t : Tile, drained.tiles[t] ≠ .untracked
  decide

theorem test_witness_RetentionChangesFollowTheRules :
    (entering.RetentionLaw ∧ ∃ t, exec .enterDone entering = .next t ∧
      entering.ret.slpAck = false ∧ t.ret.slpAck = true) ∧
    (drained.RetentionLaw ∧ drained.ModeLaw ∧ drained.ret.state = .draining ∧
      (∀ k : Tag, (drained.tags[k]).isInUse = false) ∧ drained.control.mode = .engaged ∧
      ∃ t, exec .slpReqFall drained = .next t ∧ t.ret ≠ drained.ret) :=
  ⟨⟨entering_retentionLaw, _, rfl, by decide, by decide⟩,
    drained_retentionLaw, drained_modeLaw, rfl, by decide, rfl, _, rfl, by decide⟩

/-- `ready` with n notices stored. -/
def stored (n : Nat) : State :=
  { ready with notices := { records := List.replicate n ⟨0, { kind := .halted }⟩, lost := 0,
                            counter := 0, attnLow := n != 0 } }

theorem test_witness_PostedNoticeIsMaskedStoredOrLost :
    ({ ready with settings := { Settings.defaults with noticeMask := 0 } } : State
      ).settings.noticeMask.getLsbD NoticeKind.halted.code = false ∧
    ((stored 31).settings.noticeMask.getLsbD NoticeKind.halted.code = true ∧
      (stored 31).notices.records.length ≤ 31) ∧
    ((stored 32).settings.noticeMask.getLsbD NoticeKind.strayDirective.code = true ∧
      (stored 32).notices.records.length = 32) := by decide

/-- `ready` without a credit, and with one. -/
def credits (n : Nat) : State := { ready with host := { ready.host with balance := n } }

theorem test_witness_OverrunAndClashAreDropped :
    ((credits 0).host.up = true ∧ (credits 0).host.owed = 0 ∧ (credits 0).host.balance = 0) ∧
    (mixed.host.up = true ∧ mixed.host.owed = 0 ∧ 0 < mixed.host.balance ∧
      hasTag mixed.host.outstanding (rd 7 0).tag = true) := by decide

/-- `ready` with one credit, in a retention state, with WAKE_ON_ACCESS on or off. -/
def arriving (x : RetState) (wake : Bool) : State :=
  { credits 1 with ret := { Retention.reset with state := x },
                   settings := { Settings.defaults with wakeOnAccess := wake } }

theorem test_witness_AdmittedRequestMeetsRetentionState :
    (∀ x ∈ [RetState.active, .draining, .entering, .retained, .exiting, .halted],
      ∀ w ∈ [true, false],
        (arriving x w).ret.state = x ∧ (arriving x w).settings.wakeOnAccess = w ∧
        (arriving x w).host.up = true ∧ (arriving x w).host.owed = 0 ∧
        0 < (arriving x w).host.balance ∧
        hasTag (arriving x w).host.outstanding (rd 31 0).tag = false) := by decide

theorem test_witness_LinkUpsAndCredits :
    (State.reset.pins.inReset = false ∧ State.reset.host.up = false ∧ State.reset.host.owed = 0 ∧
      State.reset.host.balance = 0) ∧
    (State.reset.pins.inReset = false ∧ State.reset.link.up = false) ∧
    (ready.host.up = true ∧ ready.link.up = true) ∧
    (State.reset.host.up = false ∧ State.reset.link.up = false) := by decide

theorem test_witness_ResponseAnswersTheHost :
    mixed.link.up = true ∧ (1 : Fin 64).val = (1 : Tag).val ∧
      mixed.tags[(1 : Tag)] = .inUse (.host .write 0x04001100 7 (some ⟨.ch0, 4⟩)) 256 := by decide

theorem test_witness_SkipEntryTakesItsWritesOutcome :
    (mixed.chan .ch0).skip.Pairwise (fun x y => x.offset < y.offset) ∧
      (mixed.chan .ch0).skip ≠ [] := by decide

/-- `mixed` with another record of channel 0, whose one in-flight write is at an offset under
tag 0. -/
def inFlightAt (o : Nat) (r : Channel) : State :=
  { mixed with chan0 := r,
               tags := mixed.tags.set 0 (.inUse (.fill (fillAddr Settings.defaults 9 o) .ch0 o) 256) }

/-- The last burst of tile 9 in flight. -/
def lastBurst : State :=
  inFlightAt 131071 (filling 131072 [] [⟨131071, .first, .issued 0⟩] false)

theorem test_witness_FillWriteAnsweredOk :
    (mixed.link.up = true ∧ (0 : Fin 64).val = (0 : Tag).val ∧ mixed.control.mode ≠ .restarting ∧
      mixed.FillDownstream .ch0 1 0 0x04001040 256 ⟨1, .first, .issued 0⟩ ∧
      (mixed.chan .ch0).state = .filling 9 ∧ mixed.tiles[(9 : Tile)] = .filling .ch0 ∧
      (mixed.chan .ch0).skip ≠ []) ∧
    (lastBurst.link.up = true ∧ lastBurst.control.mode ≠ .restarting ∧
      lastBurst.FillDownstream .ch0 131071 0 0x07FF9FC0 256 ⟨131071, .first, .issued 0⟩ ∧
      (lastBurst.chan .ch0).state = .filling 9 ∧ lastBurst.tiles[(9 : Tile)] = .filling .ch0 ∧
      (lastBurst.chan .ch0).cursor = lastBurst.settings.burstCount ∧
      (lastBurst.chan .ch0).skip = [] ∧
      (lastBurst.chan .ch0).inFlight.filter (fun x => x.offset ≠ 131071) = []) := by
  unfold State.FillDownstream
  decide

/-- Burst 1 of tile 9 on its second attempt. -/
def secondAttempt : State := inFlightAt 1 (filling 2 [] [⟨1, .second, .issued 0⟩] true)

theorem test_witness_FailedFillWriteIsRetriedOnce :
    (mixed.link.up = true ∧ (0 : Fin 64).val = (0 : Tag).val ∧ mixed.control.mode ≠ .restarting ∧
      mixed.FillDownstream .ch0 1 0 0x04001040 256 ⟨1, .first, .issued 0⟩ ∧
      (mixed.chan .ch0).state = .filling 9 ∧ mixed.tiles[(9 : Tile)] = .filling .ch0) ∧
    (secondAttempt.link.up = true ∧ secondAttempt.control.mode ≠ .restarting ∧
      secondAttempt.FillDownstream .ch0 1 0 0x04001040 256 ⟨1, .second, .issued 0⟩ ∧
      (secondAttempt.chan .ch0).state = .filling 9 ∧
      secondAttempt.tiles[(9 : Tile)] = .filling .ch0) ∧
    mixed.NoDeadlineBefore 256 ∧ secondAttempt.NoDeadlineBefore 256 ∧
    ¬ mixed.NoDeadlineBefore 257 := by
  unfold State.FillDownstream
  exact ⟨by decide, by decide, noDeadline (by decide), noDeadline (by decide),
    someDeadline (by decide)⟩

/-- Channel 0 CANCELLING with burst 1 in flight. -/
def cancelling : State :=
  inFlightAt 1 { filling 2 [] [⟨1, .first, .issued 0⟩] false with state := .cancelling }

/-- `mixed` in RESTARTING. -/
def restarting : State := { mixed with control := { mode := .restarting, walk := none } }

theorem test_witness_IgnoredFillWriteOnlyLeavesItsList :
    (cancelling.link.up = true ∧ (0 : Fin 64).val = (0 : Tag).val ∧
      cancelling.FillDownstream .ch0 1 0 0x04001040 256 ⟨1, .first, .issued 0⟩ ∧
      (cancelling.chan .ch0).state = .cancelling ∧ (cancelling.chan .ch0).skip = []) ∧
    (restarting.link.up = true ∧
      restarting.FillDownstream .ch0 1 0 0x04001040 256 ⟨1, .first, .issued 0⟩ ∧
      restarting.control.mode = .restarting ∧ (restarting.chan .ch0).state ≠ .cancelling) ∧
    cancelling.NoDeadlineBefore 256 ∧ restarting.NoDeadlineBefore 256 := by
  unfold State.FillDownstream
  exact ⟨by decide, by decide, noDeadline (by decide), noDeadline (by decide)⟩

theorem test_witness_HostDeadlineAnswersTimeout :
    (mixed.tags[(1 : Tag)] = .inUse (.host .write 0x04001100 7 (some ⟨.ch0, 4⟩)) 256 ∧
      mixed.NoDeadlineBefore 256) ∧
    (laterDeadline.tags[(1 : Tag)] = .inUse (.host .write 0x04001100 7 (some ⟨.ch0, 4⟩)) 300 ∧
      ¬ laterDeadline.NoDeadlineBefore 300) :=
  ⟨⟨rfl, noDeadline (by decide)⟩, rfl, someDeadline (by decide)⟩

/-- `mixed` with tag 46 QUARANTINED for a host read and tag 47 for a fill write. -/
def late : State :=
  { mixed with tags := (mixed.tags.set 46 (.quarantined (.host .read 0x40 3 none))).set 47
                 (.quarantined (.fill 0x80 .ch1 2)) }

theorem test_witness_LateAndStrayResponsesReachNobody :
    late.link.up = true ∧ 48 ≤ (48 : Fin 64).val ∧
    ((45 : Fin 64).val = (45 : Tag).val ∧ late.tags[(45 : Tag)] = .free) ∧
    ((46 : Fin 64).val = (46 : Tag).val ∧
      late.tags[(46 : Tag)] = .quarantined (.host .read 0x40 3 none)) ∧
    ((47 : Fin 64).val = (47 : Tag).val ∧
      late.tags[(47 : Tag)] = .quarantined (.fill 0x80 .ch1 2)) := by decide

/-- A mode and a retention state, with no tag IN_USE. -/
def settling (m : Mode) (x : RetState) : State :=
  { ready with control := { mode := m, walk := none }, ret := { Retention.reset with state := x } }

/-- A mode and a retention state, with tag 47 IN_USE and channel 1 busy. -/
def waiting (m : Mode) (x : RetState) : State :=
  { settling m x with
    tags := ready.tags.set 47 (.inUse (.host .read 0 0 none) 256),
    chan1 := filling 2 [] [] false }

theorem test_witness_SettlingCompletesTheWaitingEvent :
    (∀ m ∈ [Mode.bypass, .engaged, .engaging, .disengaging, .restarting],
      (settling m .draining).control.mode = m ∧ (settling m .draining).ret.state = .draining ∧
      (∀ t : Tag, ((settling m .draining).tags[t]).isInUse = false) ∧
      (settling m .draining).chan0.state = .idle ∧ (settling m .draining).chan1.state = .idle) ∧
    (∀ m ∈ [Mode.bypass, .engaged, .engaging, .disengaging, .restarting],
      (waiting m .active).control.mode = m ∧ (waiting m .active).ret.state ≠ .draining ∧
      (∃ t : Tag, ((waiting m .active).tags[t]).isInUse = true) ∧
      (waiting m .active).chan1.state ≠ .idle) := by decide

/-- ENTERING with a wake pending. -/
def enteringWake : State := { entering with ret := { entering.ret with pendingWake := true } }

/-- ENTERING after SLP_REQ has fallen. -/
def enteringLow : State := { entering with pins := { entering.pins with slpReqHigh := false } }

theorem test_witness_EnterDoneEntersOrExits :
    (entering.link.up = true ∧ entering.ret.state = .entering ∧
      entering.pins.slpReqHigh = true ∧ entering.ret.pendingWake = false) ∧
    (enteringWake.link.up = true ∧ enteringWake.ret.state = .entering ∧
      enteringWake.pins.slpReqHigh = true ∧ enteringWake.ret.pendingWake = true) ∧
    (enteringLow.link.up = true ∧ enteringLow.ret.state = .entering ∧
      enteringLow.pins.slpReqHigh = false) := by decide

theorem test_witness_UnmatchedDoneMessageIsStray :
    (ready.link.up = true ∧ ready.ret.state ≠ .draining ∧ ready.ret.state ≠ .entering ∧
      ready.ret.state ≠ .exiting) ∧
    (drained.link.up = true ∧ drained.ret.state = .draining ∧
      (∀ t : Tag, (drained.tags[t]).isInUse = false) ∧
      drained.control.mode = .engaged) := by decide

/-- EXITING with SLP_REQ high and release-needed clear. -/
def exitingAgain : State := { exiting with ret := { exiting.ret with releaseNeeded := false } }

theorem test_witness_ExitDoneCompletesTheExit :
    (exiting.link.up = true ∧ exiting.ret.state = .exiting ∧ exiting.ret.releaseNeeded = true) ∧
    (exitingAgain.link.up = true ∧ exitingAgain.ret.state = .exiting ∧
      exitingAgain.pins.slpReqHigh = true ∧ exitingAgain.ret.releaseNeeded = false ∧
      exitingAgain.pins.inReset = false) := by decide

/-- A state with a host read under tag 47 due at 16, before its directive deadline. -/
def earlierDeadline (s : State) : State :=
  { s with tags := s.tags.set 47 (.inUse (.host .read 0 0 none) 16) }

theorem test_witness_DirectiveDeadlineSendsRetainExit :
    (entering.ret.deadline = some 8000 ∧ entering.ret.state = .entering ∧
      entering.NoDeadlineBefore 8000) ∧
    (exiting.ret.deadline = some 8000 ∧ exiting.ret.state = .exiting ∧
      exiting.ret.exitAttempts = 1 ∧ exiting.NoDeadlineBefore 8000) ∧
    ((earlierDeadline entering).ret.deadline = some 8000 ∧
      ¬ (earlierDeadline entering).NoDeadlineBefore 8000) :=
  ⟨⟨by decide, by decide, noDeadline (by decide)⟩,
    ⟨by decide, by decide, by decide, noDeadline (by decide)⟩, by decide,
    someDeadline (by decide)⟩

theorem test_witness_SecondExitTimeoutHalts :
    (secondExit.ret.deadline = some 16000 ∧ secondExit.ret.state = .exiting ∧
      secondExit.ret.exitAttempts = 2 ∧ secondExit.host.owed = 0 ∧ secondExit.requests ≠ [] ∧
      secondExit.NoDeadlineBefore 16000) ∧
    ((earlierDeadline secondExit).ret.deadline = some 16000 ∧
      (earlierDeadline secondExit).ret.state = .exiting ∧
      (earlierDeadline secondExit).ret.exitAttempts = 2 ∧
      (earlierDeadline secondExit).host.owed = 0 ∧
      ¬ (earlierDeadline secondExit).NoDeadlineBefore 16000) :=
  ⟨⟨by decide, by decide, by decide, by decide, by decide, noDeadline (by decide)⟩,
    by decide, by decide, by decide, by decide, someDeadline (by decide)⟩

theorem test_witness_SlpReqChangesByRetentionState :
    (mixed.pins.slpReqHigh = false ∧ mixed.ret.state = .active ∧
      mixed.ret.releaseNeeded = false ∧ mixed.pins.inReset = false) ∧
    (enteringLow.pins.slpReqHigh = false ∧ enteringLow.ret.state ≠ .active) ∧
    (drained.pins.slpReqHigh = true ∧ drained.ret.state = .draining) ∧
    (retained.pins.slpReqHigh = true ∧ retained.ret.state = .retained) ∧
    (entering.pins.slpReqHigh = true ∧ entering.ret.state ≠ .draining ∧
      entering.ret.state ≠ .retained) := by decide

theorem test_witness_DrainCompletionEnters :
    (drained.ret.state = .draining ∧ (∀ t : Tag, (drained.tags[t]).isInUse = false) ∧
      drained.control.mode = .engaged) ∧
    mixed.ret.state ≠ .draining ∧
    (drained.tiles[(33 : Tile)] = .discarded ∧
      (drained.censusLanes.getLsbD (33 % 8) = false ∨ drained.censusBands.getLsbD (33 / 8) = false)) ∧
    (drained.tiles[(124 : Tile)] = .discarded ∧
      drained.censusLanes.getLsbD (124 % 8) = true ∧
      drained.censusBands.getLsbD (124 / 8) = true) := by decide

theorem test_witness_KeptSetsFollowTheCensus :
    drained.control.mode = .engaged ∧ ready.control.mode = .bypass := by decide

theorem test_witness_HardResetAndItsEnd :
    mixed.pins.slpReqHigh = false ∧ entering.pins.slpReqHigh = true := by decide

/-- The head r against channel 0 FILLING tile 9. -/
def onFill (r : HostRequest) (ch : Channel) : State :=
  { engagedHead r with tiles := engaged.tiles.set 9 (.filling .ch0), chan0 := ch }

/-- The head r, its tile 127 in state x, under a void policy. -/
def onTile (x : TileState) (p : VoidPolicy) (r : HostRequest) : State :=
  { engagedHead r with tiles := engaged.tiles.set 127 x,
                       settings := { Settings.defaults with voidPolicy := p } }

/-- The last burst of the managed window: tile 127, offset 131071. -/
theorem head_at_window_end (x : TileState) (p : VoidPolicy) (r : HostRequest)
    (h : r.addr = 0x3FFFFFFF) : (onTile x p r).HeadAt r 127 131071 := by
  have e : (burstAddr r.addr).toNat = 0x3FFFFFC0 := by rw [h]; rfl
  refine ⟨rfl, rfl, rfl, ?_, ?_, ?_⟩
  · rw [e]; show 0x3FFFFFC0 < Settings.defaults.capacityBytes; decide
  · rw [e]; show tileOfAddr Settings.defaults 0x3FFFFFC0 = 127; decide
  · rw [e]; show offsetOfAddr Settings.defaults 0x3FFFFFC0 = 131071; decide

/-- The head at the first address outside the window. -/
def outside : State := engagedHead (rd 1 0x40000000)

theorem test_witness_HeadIsAnsweredLocally :
    (outside.control.mode = .engaged ∧ outside.ret.state = .active ∧ outside.host.owed = 0 ∧
      outside.requests.head? = some (rd 1 0x40000000) ∧
      outside.settings.capacityBytes ≤ (burstAddr (rd 1 0x40000000).addr).toNat) ∧
    (∀ x p, (onTile x p (rd 1 0x3FFFFFFF)).HeadAt (rd 1 0x3FFFFFFF) 127 131071 ∧
      (onTile x p (rd 1 0x3FFFFFFF)).tiles[(127 : Tile)] = x ∧
      (onTile x p (rd 1 0x3FFFFFFF)).settings.voidPolicy = p ∧
      (onTile x p (rd 1 0x3FFFFFFF)).host.owed = 0 ∧
      (rd 1 0x3FFFFFFF).body.kind = .read) :=
  ⟨by decide, fun x p => ⟨head_at_window_end x p _ rfl, rfl, rfl, rfl, rfl⟩⟩

/-- The head r in BYPASS. -/
def bypassHead (r : HostRequest) : State :=
  { engagedHead r with tiles := ready.tiles, control := ready.control }

/-- The head r on tile 127 in state x, with the channels as given. -/
def onTileBusy (x : TileState) (r : HostRequest) (c0 c1 : Channel) : State :=
  { onTile x .flag r with chan0 := c0, chan1 := c1 }

theorem test_witness_HeadIsForwardOrMakesItsClaim :
    ((bypassHead (rd 1 0)).control.mode = .bypass ∧ (bypassHead (rd 1 0)).ret.state = .active ∧
      (bypassHead (rd 1 0)).requests.head? = some (rd 1 0)) ∧
    entering.ret.state ≠ .active ∧
    ((settling .engaging .active).control.mode ≠ .bypass ∧
      (settling .engaging .active).control.mode ≠ .engaged) ∧
    (∀ x c0 c1, (onTileBusy x (wr 1 0x3FFFFFFF) c0 c1).HeadAt (wr 1 0x3FFFFFFF) 127 131071 ∧
      (onTileBusy x (wr 1 0x3FFFFFFF) c0 c1).tiles[(127 : Tile)] = x ∧
      (onTileBusy x (wr 1 0x3FFFFFFF) c0 c1).chan0 = c0 ∧
      (onTileBusy x (wr 1 0x3FFFFFFF) c0 c1).chan1 = c1) ∧
    (wr 1 0x3FFFFFFF).body.kind = .write ∧ Channel.reset.state = .idle ∧
    (filling 0 [] [] true).state ≠ .idle :=
  ⟨by decide, by decide, by decide,
    fun x c0 c1 => ⟨head_at_window_end x .flag _ rfl, rfl, rfl, rfl⟩, by decide, by decide,
    by decide⟩

/-- A skip list of n CONFIRMED entries from offset 10 on. -/
def entries (n : Nat) : List SkipEntry := (List.range n).map fun i => ⟨10 + i, .confirmed⟩

/-- A head at offset o of tile 9, for o below 64, FILLING on channel 0. -/
theorem head_on_fill (r : HostRequest) (ch : Channel) (o : Nat) (ho : o < 64)
    (h : (burstAddr r.addr).toNat = 0x04001000 + o * 64) : (onFill r ch).HeadAt r 9 o := by
  refine ⟨rfl, rfl, rfl, ?_, ?_, ?_⟩
  · rw [h]; show 0x04001000 + o * 64 < Settings.defaults.capacityBytes
    have e : Settings.defaults.capacityBytes = 0x40000000 := by decide
    omega
  · rw [h]; show tileOfAddr Settings.defaults (0x04001000 + o * 64) = 9
    interval_cases o <;> decide
  · rw [h]; show offsetOfAddr Settings.defaults (0x04001000 + o * 64) = o
    interval_cases o <;> decide

theorem test_witness_HeadOnFillingTile :
    (∀ ch, (onFill (rd 1 0x04001080) ch).HeadAt (rd 1 0x04001080) 9 2 ∧
      (onFill (wr 1 0x04001080) ch).HeadAt (wr 1 0x04001080) 9 2 ∧
      (onFill (rd 1 0x04001080) ch).tiles[(9 : Tile)] = .filling .ch0 ∧
      (onFill (wr 1 0x04001080) ch).tiles[(9 : Tile)] = .filling .ch0 ∧
      (onFill (wr 1 0x04001080) ch).chan .ch0 = ch ∧ (onFill (wr 1 0x04001080) ch).host.owed = 0) ∧
    (∃ e ∈ (filling 3 [] [⟨2, .first, .issued 0⟩] false).inFlight, e.offset = 2) ∧
    ((∀ e ∈ (filling 3 [] [] false).inFlight, e.offset ≠ 2) ∧
      2 < (filling 3 [] [] false).cursor) ∧
    ((filling 2 (entries 31) [] false).cursor ≤ 2 ∧
      (∀ e ∈ (filling 2 (entries 31) [] false).skip, e.offset ≠ 2) ∧
      (filling 2 (entries 31) [] false).skip.length < 32) ∧
    ((filling 2 (entries 32) [] false).cursor ≤ 2 ∧
      (∀ e ∈ (filling 2 (entries 32) [] false).skip, e.offset ≠ 2) ∧
      32 ≤ (filling 2 (entries 32) [] false).skip.length) ∧
    (filling 2 [⟨2, .confirmed⟩] [] false).skipAt 2 = some ⟨2, .confirmed⟩ ∧
    (filling 2 [⟨2, .issued 0⟩] [] false).skipAt 2 = some ⟨2, .issued 0⟩ :=
  ⟨fun ch => ⟨head_on_fill _ ch 2 (by decide) (by decide), head_on_fill _ ch 2 (by decide)
    (by decide), rfl, rfl, rfl, rfl⟩, by decide, by decide, by decide, by decide,
    by decide, by decide⟩

/-- A claim on tile 9 on its way, its record in state x, with the channels as given. -/
def claiming (d : DispatchClaim) (x : TileState) (c0 c1 : Channel) : State :=
  { engaged with dispatch := { headClass := some .wait, claim := some d },
                 tiles := engaged.tiles.set 9 x, chan0 := c0, chan1 := c1, fillQueue := [4, 9] }

theorem test_witness_DispatchClaimsArrive :
    (∀ d x c0 c1, (claiming d x c0 c1).control.mode = .engaged ∧
      (claiming d x c0 c1).ret.state = .active ∧ (claiming d x c0 c1).dispatch.claim = some d ∧
      (claiming d x c0 c1).tiles[(9 : Tile)] = x ∧ (claiming d x c0 c1).chan .ch0 = c0 ∧
      (claiming d x c0 c1).chan .ch1 = c1 ∧ (claiming d x c0 c1).fillQueue.Nodup) ∧
    Channel.reset.state = .idle ∧ (filling 0 [] [] true).state ≠ .idle :=
  ⟨fun d x c0 c1 => ⟨rfl, rfl, rfl, rfl, rfl, rfl, by show [(4 : Tile), 9].Nodup; decide⟩,
    by decide, by decide⟩

/-- Requests to the arbiter, its counts, and the link credits. -/
def asking (head : Option HeadClass) (a0 a1 : Bool) (pass : Nat) (last : Chan) (n : Nat) : State :=
  { engaged with
    dispatch := { headClass := head, claim := none },
    chan0 := filling 2 [] [] a0, chan1 := filling 2 [] [] a1,
    link := { ready.link with fillPass := pass, lastGranted := last, credits := n } }

theorem test_witness_ArbiterChoosesByFillShare :
    (∀ head a0 a1 pass last n, (asking head a0 a1 pass last n).dispatch.headClass = head ∧
      (asking head a0 a1 pass last n).chan0.asks = a0 ∧
      (asking head a0 a1 pass last n).chan1.asks = a1 ∧
      (asking head a0 a1 pass last n).link.fillPass = pass ∧
      (asking head a0 a1 pass last n).link.lastGranted = last ∧
      (asking head a0 a1 pass last n).link.credits = n ∧
      (asking head a0 a1 pass last n).settings.fillShare = 4 ∧
      (asking head a0 a1 pass last n).tags[(0 : Tag)] = .free) ∧
    (∀ t : Tag, (Vector.replicate 48 (TagEntry.quarantined (.fill 0 .ch0 0)))[t] ≠ .free) :=
  ⟨fun _ _ _ _ _ _ => ⟨rfl, rfl, rfl, rfl, rfl, rfl, rfl, rfl⟩, by decide⟩

/-- A state whose head stands FORWARD. -/
def forwarded (s : State) : State := { s with dispatch := { headClass := some .forward, claim := none } }

/-- Channel 0 beyond offset 2 with nothing in flight. -/
def beyond : Channel := filling 3 [] [] false

/-- Channel 0 at offset 2, where a host write is downstream. -/
def overSkip : Channel := filling 2 [⟨2, .issued 1⟩] [] false

theorem test_witness_GrantedHeadIsIssuedAsReceived :
    ((forwarded (bypassHead (rd 1 0))).GrantsHead 0 ∧
      (forwarded (bypassHead (rd 1 0))).control.mode = .bypass ∧
      (forwarded (bypassHead (rd 1 0))).ret.state = .active ∧
      (forwarded (bypassHead (rd 1 0))).requests.head? = some (rd 1 0)) ∧
    ((forwarded (onTile .live .flag (wr 1 0x3FFFFFFF))).GrantsHead 0 ∧
      (forwarded (onTile .live .flag (wr 1 0x3FFFFFFF))).HeadAt (wr 1 0x3FFFFFFF) 127 131071 ∧
      (forwarded (onTile .live .flag (wr 1 0x3FFFFFFF))).tiles[(127 : Tile)] = .live) ∧
    ((forwarded (onTile .discarded .flag (wr 1 0x3FFFFFFF))).GrantsHead 0 ∧
      (forwarded (onTile .discarded .flag (wr 1 0x3FFFFFFF))).HeadAt (wr 1 0x3FFFFFFF) 127 131071 ∧
      (forwarded (onTile .discarded .flag (wr 1 0x3FFFFFFF))).tiles[(127 : Tile)] = .discarded ∧
      (wr 1 0x3FFFFFFF).body.kind = .write) ∧
    ((forwarded (onFill (rd 1 0x04001080) beyond)).GrantsHead 0 ∧
      (forwarded (onFill (rd 1 0x04001080) beyond)).HeadAt (rd 1 0x04001080) 9 2 ∧
      (forwarded (onFill (rd 1 0x04001080) beyond)).tiles[(9 : Tile)] = .filling .ch0 ∧
      2 < beyond.cursor ∧ ∀ e ∈ beyond.inFlight, e.offset ≠ 2) ∧
    ((forwarded (onFill (rd 1 0x04001080) overSkip)).GrantsHead 0 ∧
      (forwarded (onFill (rd 1 0x04001080) overSkip)).HeadAt (rd 1 0x04001080) 9 2 ∧
      (forwarded (onFill (rd 1 0x04001080) overSkip)).tiles[(9 : Tile)] = .filling .ch0 ∧
      (rd 1 0x04001080).body.kind = .read ∧ overSkip.cursor ≤ 2 ∧
      (∀ e ∈ overSkip.inFlight, e.offset ≠ 2) ∧ ∃ e ∈ overSkip.skip, e.offset = 2) ∧
    ((forwarded (onTile .failed .flag (wr 1 0x3FFFFFFF))).GrantsHead 0 ∧
      ∃ u, exec .headClassification (forwarded (onTile .failed .flag (wr 1 0x3FFFFFFF))) = .next u ∧
        u.dispatch.headClass ≠ some .forward) := by
  refine ⟨⟨?_, by decide⟩, ⟨?_, head_at_window_end .live .flag _ rfl, rfl⟩,
    ⟨?_, head_at_window_end .discarded .flag _ rfl, rfl, rfl⟩,
    ⟨?_, head_on_fill _ beyond 2 (by decide) (by decide), rfl, by decide⟩,
    ⟨?_, head_on_fill _ overSkip 2 (by decide) (by decide), rfl, by decide⟩,
    ⟨?_, _, rfl, by decide⟩⟩
  all_goals unfold State.GrantsHead; decide

theorem test_witness_GrantedWriteAheadOfCursorIsRecorded :
    (∀ ch ∈ [filling 2 [⟨2, .confirmed⟩] [] false, filling 2 (entries 31) [] false],
      (forwarded (onFill (wr 1 0x04001080) ch)).GrantsHead 0 ∧ ch.cursor ≤ 2 ∧
      (∀ e ∈ ch.inFlight, e.offset ≠ 2) ∧ ch.skip.Pairwise (fun x y => x.offset < y.offset)) ∧
    (∀ ch, (forwarded (onFill (wr 1 0x04001080) ch)).HeadAt (wr 1 0x04001080) 9 2) ∧
    (wr 1 0x04001080).body = .write (BitVec.allOnes 64) zeros ∧
    (∃ e ∈ (filling 2 [⟨2, .confirmed⟩] [] false).skip, e.offset = 2 ∧ e.status = .confirmed) ∧
    ((∀ e ∈ entries 31, e.offset ≠ 2) ∧ (entries 31).length < 32) := by
  refine ⟨?_, fun ch => head_on_fill _ ch 2 (by decide) (by decide), rfl, by decide, by decide⟩
  unfold State.GrantsHead
  decide

/-- Channel 0 with a retry due, and with three writes in flight and none to retry. -/
def retryDue : State :=
  { mixed with chan0 := filling 3 [] [⟨1, .second, .retryWait⟩, ⟨2, .second, .retryWait⟩] true }

/-- Channel 0 before the last burst of tile 9 with three writes in flight. -/
def threeInFlight : State :=
  { mixed with chan0 := filling 131071 []
                 [⟨1, .first, .issued 3⟩, ⟨2, .first, .issued 4⟩, ⟨3, .first, .issued 5⟩] true }

/-- Channel 0 asking with four writes in flight. -/
def fourInFlight : State :=
  { mixed with chan0 := filling 8 []
                 [⟨1, .first, .issued 3⟩, ⟨2, .first, .issued 4⟩, ⟨3, .first, .issued 5⟩,
                  ⟨4, .first, .issued 6⟩] true }

theorem test_witness_GrantedChannelIssuesAFillWrite :
    (retryDue.grant = some (.chan .ch0) ∧ retryDue.lowestFree = some 2 ∧
      (retryDue.chan .ch0).state = .filling 9 ∧ (retryDue.chan .ch0).paused = false ∧
      retryDue.control.mode ≠ .restarting ∧
      (⟨1, .second, .retryWait⟩ : FlightEntry) ∈ (retryDue.chan .ch0).inFlight ∧
      (∀ x ∈ (retryDue.chan .ch0).inFlight, x.status = .retryWait → 1 ≤ x.offset) ∧
      (retryDue.chan .ch0).inFlight.Pairwise (fun x y => x.offset < y.offset)) ∧
    (threeInFlight.grant = some (.chan .ch0) ∧ threeInFlight.lowestFree = some 2 ∧
      (threeInFlight.chan .ch0).state = .filling 9 ∧ (threeInFlight.chan .ch0).paused = false ∧
      threeInFlight.control.mode ≠ .restarting ∧
      (∀ e ∈ (threeInFlight.chan .ch0).inFlight, e.status ≠ .retryWait) ∧
      (threeInFlight.chan .ch0).cursor < threeInFlight.settings.burstCount ∧
      (threeInFlight.chan .ch0).inFlight.length < 4 ∧
      (∀ e ∈ (threeInFlight.chan .ch0).skip, e.offset ≠ (threeInFlight.chan .ch0).cursor)) ∧
    (fourInFlight.grant = some (.chan .ch0) ∧ fourInFlight.lowestFree = some 2 ∧
      (∀ e ∈ (fourInFlight.chan .ch0).inFlight, e.status ≠ .retryWait) ∧
      4 ≤ (fourInFlight.chan .ch0).inFlight.length) := by
  decide

/-- `mixed` with the channels as given: tile 5 stands at the head of the Fill Queue. -/
def queued (c0 c1 : Channel) : State := { mixed with chan0 := c0, chan1 := c1 }

theorem test_witness_IdleChannelTakesTheQueueHead :
    (∀ c0 c1, (queued c0 c1).fillQueue = [5] ∧ (queued c0 c1).tiles[(5 : Tile)] = .queued ∧
      (queued c0 c1).control.mode ≠ .restarting ∧ (queued c0 c1).chan0 = c0 ∧
      (queued c0 c1).chan1 = c1) ∧
    (Channel.reset.state = .idle ∧ Channel.reset.paused = false) ∧
    mixed.chan0.state ≠ .idle ∧ ({ Channel.reset with paused := true } : Channel).paused = true :=
  ⟨fun _ _ => ⟨rfl, rfl, by show Mode.engaged ≠ .restarting; decide, rfl, rfl⟩, by decide,
    by decide, rfl⟩

/-- Channel 0 before the end of tile 9, and at its last burst, over a CONFIRMED entry. -/
def overEntry (cursor : Nat) (rest : List SkipEntry) : State :=
  { mixed with chan0 := filling cursor (⟨cursor, .confirmed⟩ :: rest) [] false }

theorem test_witness_CursorStepsOverConfirmedEntry :
    (∀ n rest, ((overEntry n rest).chan .ch0).state = .filling 9 ∧
      (overEntry n rest).tiles[(9 : Tile)] = .filling .ch0 ∧
      (overEntry n rest).control.mode ≠ .restarting ∧
      ((overEntry n rest).chan .ch0).cursor = n ∧
      ((overEntry n rest).chan .ch0).skip = ⟨n, .confirmed⟩ :: rest ∧
      ((overEntry n rest).chan .ch0).inFlight = [] ∧
      (overEntry n rest).settings.burstCount = 131072) ∧
    131070 + 1 ≠ 131072 ∧ 131071 + 1 = 131072 :=
  ⟨fun _ _ => ⟨rfl, rfl, by show Mode.engaged ≠ .restarting; decide, rfl, rfl, rfl,
    by show Settings.defaults.burstCount = 131072; decide⟩, by decide, by decide⟩

theorem test_witness_FillAddressDecomposesBack : 131071 < Settings.defaults.burstCount := by decide

theorem test_witness_SettingReadsBackAsItWasSet :
    (∀ p ∈ [(SettingId.capacity, 5), (.granule, 4), (.fillWord, 0xFFFFFFFFFFFFFFFF),
        (.voidPolicy, 2), (.wakeOnAccess, 0), (.fillShare, 15), (.respTimeout, 4096),
        (.directiveTimeout, 64), (.floorLanes, 255), (.floorBands, 65535), (.noticeMask, 0x3FFFF)],
      (Settings.defaults.put p.1 p.2).isSome = true) ∧ Settings.defaults.InRange :=
  ⟨by decide, by unfold Settings.InRange; decide⟩

/-- A state with a frame begun has its command still to be taken. -/
theorem frameOpen_inFrame (s : State) : (inFrame s).FrameOpen := ⟨Frame.begun, rfl, rfl⟩

theorem test_witness_FramesBeginAndEnd :
    (ready.pins.csLow = false ∧ ready.pins.inReset = false) ∧ (inFrame ready).pins.csLow = true ∧
      (inFrame ready).FrameOpen ∧ (0xFF : Byte) ∉ knownCodes ∧ ¬ ready.FrameOpen ∧
    ((Instr.adopt 3 9).wellFormed = true ∧
      (Instr.adopt 3 9).frameBytes = some [0x24, 3, 9] ∧ (0x24 : Byte) ∈ knownCodes ∧
      1 ≤ ([3, 9] ++ ([] : List Byte)).length ∧ 2 ≤ max 1 [(3 : Byte), 9].length) :=
  ⟨by decide, by decide, frameOpen_inFrame _, by decide, (fun ⟨_, h, _⟩ => by cases h), by decide⟩

theorem test_witness_ReadCommandsReplyAndChangeNothing :
    (inFrame secondExit).FrameOpen ∧ (inFrame secondExit).ret.exitAttempts = 2 ∧
      settingOf 0x01 = some .capacity ∧ settingOf 0x0B = some .noticeMask ∧
      settingOf 0x00 = none ∧ settingOf 0x0C = none ∧ 128 ≤ (0x80 : Byte).toNat ∧
      2 ≤ (0x02 : Byte).toNat :=
  ⟨frameOpen_inFrame _, by decide, by decide, by decide, by decide, by decide, by decide,
    by decide⟩

theorem test_witness_SetIsCheckedInOrder :
    (inFrame mixed).FrameOpen ∧ (inFrame ready).FrameOpen ∧ settingOf 0x0C = none ∧
      settingOf 0x02 = some .granule ∧ (inFrame mixed).control.mode ≠ .bypass ∧
      (inFrame ready).control.mode = .bypass ∧
      (inFrame ready).settings.put .granule 5 = none ∧
      ((inFrame ready).settings.put .granule 4).isSome = true :=
  ⟨frameOpen_inFrame _, frameOpen_inFrame _, by decide, by decide, by decide, by decide,
    by decide, by decide⟩

theorem test_witness_TakeNoticeTakesTheOldest :
    (inFrame ready).FrameOpen ∧ (inFrame ready).notices.records = [] ∧
      (inFrame (stored 1)).FrameOpen ∧
      (inFrame (stored 1)).notices.records = [⟨0, { kind := .halted }⟩] ∧
      (inFrame (stored 1)).notices.attnLow = true :=
  ⟨frameOpen_inFrame _, by decide, frameOpen_inFrame _, by decide, by decide⟩

/-- A frame in progress, with a running command, a mode and a retention state. -/
def taking (r : Option LongCmd) (m : Mode) (x : RetState) : State :=
  inFrame { ready with control := { mode := m, walk := none },
                       ret := { Retention.reset with state := x },
                       port := { MgmtPort.reset with running := r } }

theorem test_witness_LongCommandIsBusyOrRefused :
    (∀ r m x, (taking r m x).FrameOpen ∧ (taking r m x).port.running = r ∧
      (taking r m x).control.mode = m ∧ (taking r m x).ret.state = x) ∧
    (∀ lc, ∃ c, CarriesLong c lc) ∧ (2 : Byte) ≠ 0 ∧ (2 : Byte) ≠ 1 ∧
    ¬ ((1 : Byte).toNat ≤ (0 : Byte).toNat ∧ (0 : Byte).toNat ≤ 127) ∧
    ¬ ((0 : Byte).toNat ≤ (128 : Byte).toNat ∧ (128 : Byte).toNat ≤ 127) := by
  refine ⟨fun r m x => ⟨frameOpen_inFrame _, rfl, rfl, rfl⟩, ?_, by decide, by decide, by decide,
    by decide⟩
  intro lc
  cases lc
  · exact ⟨.engage 0, 0, rfl⟩
  · exact ⟨.disengage, rfl⟩
  · exact ⟨.discard 0 0, 0, 0, rfl⟩
  · exact ⟨.prepare 0 0, 0, 0, rfl⟩
  · exact ⟨.adopt 0 0, 0, 0, rfl⟩
  · exact ⟨.restart, rfl⟩

/-- The ENGAGE walk at tile p, under a retention state. -/
def walking (p : Tile) (x : RetState) : State :=
  { ready with control := { mode := .engaging, walk := some { pos := p, option := .assumeVoid } },
               ret := { Retention.reset with state := x } }

theorem test_witness_EngageWalksEveryTile :
    ((taking none .bypass .active).FrameOpen ∧ (taking none .bypass .active).port.running = none ∧
      (taking none .bypass .active).control.mode = .bypass ∧
      (taking none .bypass .active).ret.state = .active) ∧
    (∀ p x, (walking p x).control.walk = some { pos := p, option := .assumeVoid } ∧
      (walking p x).ret.state = x) ∧
    (walking 126 .active).tiles[(126 : Tile)] = .untracked ∧ (126 : Tile) ≠ 127 ∧
    (walking 127 .draining).tiles[(127 : Tile)] = .untracked ∧
    (∀ t : Tag, ((walking 127 .draining).tags[t]).isInUse = false) :=
  ⟨⟨frameOpen_inFrame _, rfl, rfl, rfl⟩, fun _ _ => ⟨rfl, rfl⟩, by decide, by decide, by decide,
    by decide⟩

theorem test_witness_DisengageReleasesEveryTile :
    ((inFrame mixed).FrameOpen ∧ (inFrame mixed).port.running = none ∧
      (inFrame mixed).control.mode = .engaged ∧ (inFrame mixed).ret.state = .active ∧
      (inFrame mixed).chan0.cancelled.state ≠ .idle) ∧
    ((inFrame engaged).FrameOpen ∧ (inFrame engaged).port.running = none ∧
      (inFrame engaged).control.mode = .engaged ∧ (inFrame engaged).ret.state = .active ∧
      (inFrame engaged).chan0.state = .idle ∧ (inFrame engaged).chan1.state = .idle) ∧
    ((settling .disengaging .draining).control.mode = .disengaging ∧
      (settling .disengaging .draining).chan0.state = .idle ∧
      (settling .disengaging .draining).chan1.state = .idle ∧
      (settling .disengaging .draining).ret.state = .draining ∧
      (∀ t : Tag, ((settling .disengaging .draining).tags[t]).isInUse = false)) ∧
    (settling .disengaging .active).ret.state ≠ .draining ∧
    (waiting .disengaging .active).chan1.state ≠ .idle :=
  ⟨⟨frameOpen_inFrame _, rfl, rfl, rfl, by decide⟩,
    ⟨frameOpen_inFrame _, rfl, rfl, rfl, rfl, rfl⟩, by decide, by decide, by decide⟩

theorem test_witness_RestartFlushesAndClears :
    ((inFrame mixed).FrameOpen ∧ (inFrame mixed).host.owed = 0 ∧
      (inFrame mixed).port.running = none ∧ (inFrame mixed).ret.state = .active ∧
      (∃ t : Tag, ((inFrame mixed).tags[t]).isInUse = true)) ∧
    ((taking (some .adopt) .engaged .halted).FrameOpen ∧
      (taking (some .adopt) .engaged .halted).host.owed = 0 ∧
      (taking (some .adopt) .engaged .halted).port.running = some .adopt ∧
      (taking (some .adopt) .engaged .halted).ret.state = .halted ∧
      (∀ t : Tag, ((taking (some .adopt) .engaged .halted).tags[t]).isInUse = false)) ∧
    ((settling .restarting .active).control.mode = .restarting ∧
      (∀ t : Tag, ((settling .restarting .active).tags[t]).isInUse = false)) ∧
    ((waiting .restarting .active).control.mode = .restarting ∧
      (∃ t : Tag, ((waiting .restarting .active).tags[t]).isInUse = true)) ∧
    mixed.pins.slpReqHigh = false ∧
    (entering.pins.slpReqHigh = true ∧ entering.pins.inReset = false) :=
  ⟨⟨frameOpen_inFrame _, by decide⟩, ⟨frameOpen_inFrame _, by decide⟩, by decide, by decide,
    by decide, by decide⟩

/-- A range walk of tiles n to 14 of `mixed`, with the tile at n in state x and channel 1 paused. -/
def ranging (c : LongCmd) (n : Tile) (x : TileState) : State :=
  { mixed with tiles := mixed.tiles.set n x,
               chan1 := { Channel.reset with paused := true },
               port := { MgmtPort.reset with running := some c, result := runningRecord c,
                                             rangeWalk := some { next := n, last := 14 } } }

/-- A PREPARE walk whose claim waits for channel 1 to take tile 5. -/
def takeFirst : State := { ranging .prepare 13 .void with chan1 := Channel.reset }

theorem test_witness_RangeCommandWalksItsRange :
    ((taking none .engaged .active).FrameOpen ∧ (taking none .engaged .active).port.running = none ∧
      (taking none .engaged .active).control.mode = .engaged ∧
      (taking none .engaged .active).ret.state = .active ∧ (0 : Tile) ≤ 127) ∧
    (∀ n x, (ranging .discard n x).Walks .discardClaim { next := n, last := 14 } ∧
      (ranging .prepare n x).Walks .prepareClaim { next := n, last := 14 } ∧
      (ranging .adopt n x).Walks .adoptClaim { next := n, last := 14 }) ∧
    ((13 : Tile) ≠ 14 ∧ ∃ t, exec .discardClaim (ranging .discard 14 .failed) = .next t) ∧
    (∀ x ∈ [RetState.entering, .retained, .exiting, .halted],
      (taking (some .adopt) .engaged x).port.running = some .adopt ∧
      (taking (some .adopt) .engaged x).ret.state = x) ∧
    (takeFirst.port.running = some .prepare ∧ takeFirst.fillQueue = [5] ∧
      takeFirst.tiles[(5 : Tile)] = .queued ∧ takeFirst.control.mode ≠ .restarting ∧
      (takeFirst.chan .ch1).state = .idle ∧ (takeFirst.chan .ch1).paused = false) :=
  ⟨⟨frameOpen_inFrame _, by decide⟩,
    fun n x => ⟨⟨rfl, .inl ⟨rfl, rfl⟩⟩, ⟨rfl, .inr (.inl ⟨rfl, rfl, Bool.and_false _⟩)⟩,
      ⟨rfl, .inr (.inr ⟨rfl, rfl, .inl rfl⟩)⟩⟩,
    ⟨by decide, _, rfl⟩, by decide, by decide⟩

theorem test_witness_RangeClaimsActByTheStateFound :
    (∀ c, (ranging c 5 .queued).tiles[(5 : Tile)] = .queued ∧ (ranging c 5 .queued).fillQueue.Nodup) ∧
    (∀ c, (ranging c 9 (.filling .ch0)).tiles[(9 : Tile)] = .filling .ch0) ∧
    (∀ c, ∀ x ∈ [TileState.live, .failed, .void, .discarded],
      (ranging c 14 x).tiles[(14 : Tile)] = x) ∧
    (∀ n x, (ranging .discard n x).Walks .discardClaim { next := n, last := 14 } ∧
      (ranging .prepare n x).Walks .prepareClaim { next := n, last := 14 } ∧
      (ranging .adopt n x).Walks .adoptClaim { next := n, last := 14 }) := by
  refine ⟨fun c => by cases c <;> decide, fun c => by cases c <;> decide,
    fun c => by cases c <;> decide, test_witness_RangeCommandWalksItsRange.2.1⟩

end Sys2Proof.Tests
end

section
/-! Addresses (spec/01 R2 to R4): the band, the row, the lane and the position of a burst are the
digits of its address in a mixed radix, so that decomposing an address gives them back (O49). -/

namespace Sys2Proof.Machine

/-- Bands, rows, granules and bursts in powers of two: p bursts make a granule and q rows of eight
granules a band (spec/01 R2, R3, spec/09 R196). -/
theorem Settings.sizes (g : Settings) :
    ∃ p q : Nat, 0 < p ∧ 0 < q ∧ g.granuleBytes = 64 * p ∧ g.bandBytes = 512 * p * q ∧
      g.burstCount = p * q ∧ g.capacityBytes = 16 * (512 * p * q) ∧
      16 * (512 * p * q) ≤ 2 ^ 33 := by
  have hc : g.capacity.val ≤ 5 := by omega
  have hg : g.granule.val ≤ 9 + g.capacity.val := by omega
  have hcap : 512 * (64 * 2 ^ g.granule.val) * 2 ^ (9 + g.capacity.val - g.granule.val) =
      16777216 * 2 ^ g.capacity.val := by
    have h := pow_mul_pow_sub 2 hg
    rw [pow_add] at h
    rw [← mul_assoc, mul_assoc, h]
    ring
  refine ⟨64 * 2 ^ g.granule.val, 2 ^ (9 + g.capacity.val - g.granule.val), by positivity,
    by positivity, ?_⟩
  have hle : 2 ^ g.capacity.val ≤ 2 ^ 5 := Nat.pow_le_pow_right (by omega) hc
  rw [mul_assoc 512] at hcap ⊢
  simp only [granuleBytes, bandBytes, burstCount, capacityBytes]
  omega

/-- A number below a radix is its low digit, and the rest its high digits. -/
theorem div_mod_of_digits {m a r x : Nat} (h : x = a * m + r) (hr : r < m) :
    x / m = a ∧ x % m = r := by
  have hm : 0 < m := by omega
  refine (Nat.div_mod_unique hm).2 ⟨?_, hr⟩
  rw [h, mul_comm]
  omega

/-- Digits below their radices make a number below the product. -/
theorem digits_lt {m n a r : Nat} (ha : a < n) (hr : r < m) : a * m + r < n * m := by
  have : (a + 1) * m ≤ n * m := Nat.mul_le_mul_right m ha
  rw [Nat.add_mul] at this
  omega

/-- The tile offset of every address lies below the burst count (spec/01 R3). -/
theorem offsetOfAddr_lt (g : Settings) (a : Nat) : offsetOfAddr g a < g.burstCount := by
  obtain ⟨p, q, hp, hq, hG, hB, hN, -⟩ := g.sizes
  have hrow : a % g.bandBytes / (8 * g.granuleBytes) < q := by
    have hband : q * (8 * (64 * p)) = g.bandBytes := by rw [hB]; ring
    rw [Nat.div_lt_iff_lt_mul (by omega), hG, hband]
    exact Nat.mod_lt _ (by rw [hB]; positivity)
  have hpos : a % g.granuleBytes / 64 < p := by
    rw [Nat.div_lt_iff_lt_mul (by omega), mul_comm, ← hG]
    exact Nat.mod_lt _ (by omega)
  have h64 : g.granuleBytes / 64 = p := by omega
  rw [offsetOfAddr, h64, hN, mul_comm p q]
  exact digits_lt hrow hpos

/-- The address of burst o of tile t in digits: band, row, lane, position (spec/01 R4). -/
theorem fillAddr_digits {g : Settings} {t : Tile} {o : Nat} (ho : o < g.burstCount) :
    ∃ p q b row l pos : Nat, 0 < p ∧ g.granuleBytes = 64 * p ∧ g.bandBytes = 512 * p * q ∧
      g.capacityBytes = 16 * (512 * p * q) ∧ b < 16 ∧ row < q ∧ l < 8 ∧ pos < p ∧
      t.val = b * 8 + l ∧ o = row * p + pos ∧
      (fillAddr g t o).toNat =
        b * (512 * p * q) + (row * (512 * p) + (l * (64 * p) + pos * 64)) := by
  obtain ⟨p, q, hp, hq, hG, hB, hN, hC, hcap⟩ := g.sizes
  have h64 : g.granuleBytes / 64 = p := by omega
  have hrow : o / p < q := by
    rw [Nat.div_lt_iff_lt_mul hp, mul_comm q p, ← hN]
    exact ho
  have hpos : o % p < p := Nat.mod_lt _ hp
  have ht := t.isLt
  refine ⟨p, q, t.val / 8, o / p, t.val % 8, o % p, hp, hG, hB, hC, by omega, hrow, by omega, hpos,
    by omega, (Nat.div_add_mod' o p).symm, ?_⟩
  have hl : t.val % 8 * (64 * p) + o % p * 64 < 8 * (64 * p) :=
    digits_lt (by omega) (by omega)
  have hr : o / p * (512 * p) + (t.val % 8 * (64 * p) + o % p * 64) < q * (512 * p) :=
    digits_lt hrow (by omega)
  have hx : t.val / 8 * (q * (512 * p)) +
      (o / p * (512 * p) + (t.val % 8 * (64 * p) + o % p * 64)) < 16 * (q * (512 * p)) :=
    digits_lt (by omega) hr
  rw [mul_comm q] at hx
  rw [fillAddr, h64, hG, hB, BitVec.toNat_ofNat, show 8 * (64 * p) = 512 * p by ring,
    Nat.mod_eq_of_lt (by omega)]
  omega

/-- Settles O49: each digit of the address is read off by one division. -/
theorem fillAddressDecomposesBack : Obligations.FillAddressDecomposesBack := by
  intro g t o ho
  obtain ⟨p, q, b, row, l, pos, hp, hG, hB, hC, hb, hrow, hl, hpos, ht, hox, hx⟩ :=
    fillAddr_digits (t := t) ho
  have hlow : l * (64 * p) + pos * 64 < 8 * (64 * p) := digits_lt hl (by omega)
  have hrest : row * (512 * p) + (l * (64 * p) + pos * 64) < q * (512 * p) :=
    digits_lt hrow (by omega)
  have hall := digits_lt hb hrest
  rw [mul_comm q] at hrest hall
  obtain ⟨hband, hinBand⟩ := div_mod_of_digits hx hrest
  have hrowEq : (row * (512 * p) + (l * (64 * p) + pos * 64)) / (512 * p) = row :=
    (div_mod_of_digits rfl (by omega)).1
  have hgranule : (fillAddr g t o).toNat = ((b * q + row) * 8 + l) * (64 * p) + pos * 64 := by
    rw [hx]; ring
  obtain ⟨hlane, hinGranule⟩ := div_mod_of_digits hgranule (by omega)
  have h64 : g.granuleBytes / 64 = p := by omega
  refine ⟨by rw [hC]; omega, ⟨((b * q + row) * 8 + l) * p + pos, by rw [hgranule]; ring⟩, ?_, ?_⟩
  · rw [tileOfAddr, bandOfAddr, laneOfAddr, hB, hG, hband, hlane]
    ext
    have := t.isLt
    simp only [Fin.val_ofNat]
    omega
  · rw [offsetOfAddr, hB, hinBand, h64, hG, hinGranule, show 8 * (64 * p) = 512 * p by ring, hrowEq,
      Nat.mul_div_cancel _ (by omega), hox]

end Sys2Proof.Machine
end

section
/-! The tracking law (spec/01 R6, spec/03 R48, R50, R54, R57, R68): what it reads, and one rule for
each way in which a shared operation changes a tile, a channel or the Fill Queue. -/

namespace Sys2Proof.Machine

/-! ### Reading one tile and one channel of a changed state -/

/-- The record of a tile after the record of one tile was set. -/
theorem tiles_set_get (v : Vector TileState 128) (t k : Tile) (x : TileState) :
    (v.set t x)[k] = if k = t then x else v[k] := by
  simp [Vector.getElem_set, Fin.ext_iff, eq_comm]

/-- The record of a tile after `setTile`. -/
theorem State.setTile_get (s : State) (t k : Tile) (x : TileState) :
    (s.setTile t x).tiles[k] = if k = t then x else s.tiles[k] := tiles_set_get s.tiles t k x

/-- The record of a channel after `setChan`. -/
theorem State.setChan_get (s : State) (c k : Chan) (r : Channel) :
    (s.setChan c r).chan k =
      if k = c then r.examined s.control.mode s.settings.burstCount else s.chan k := by
  cases c <;> cases k <;> rfl

/-- Two states with the same two channels have the same channel of every number. -/
theorem State.chan_congr {s t : State} (h0 : t.chan0 = s.chan0) (h1 : t.chan1 = s.chan1)
    (c : Chan) : t.chan c = s.chan c := by
  cases c
  · exact h0
  · exact h1

/-- Whether a channel asks does not depend on its standing request. -/
@[simp] theorem Channel.wants_examined (m m' : Mode) (n n' : Nat) (r : Channel) :
    (r.examined m n).wants m' n' = r.wants m' n' := rfl

/-- The lists of a channel do not depend on its standing request. -/
@[simp] theorem Channel.listLaw_examined (m : Mode) (n n' : Nat) (r : Channel) :
    (r.examined m n).ListLaw n' ↔ r.ListLaw n' := Iff.rfl

/-- No tile is tracked after the end of DISENGAGE or the RESTART clear (spec/01 R17, R18). -/
@[simp] theorem noTiles_get (t : Tile) : noTiles[t] = .untracked := by simp [noTiles]

/-- Both channels are IDLE and the Fill Queue is empty, said of every channel at once. -/
theorem State.quiet_iff (s : State) :
    s.Quiet ↔ (∀ c, (s.chan c).state = .idle) ∧ s.fillQueue = [] := by
  constructor
  · rintro ⟨h0, h1, hq⟩
    refine ⟨fun c => ?_, hq⟩
    cases c
    · exact h0
    · exact h1
  · rintro ⟨h, hq⟩
    exact ⟨h .ch0, h .ch1, hq⟩

/-! ### The mode law, mode by mode -/

/-- The mode law between BYPASS and the walks: no walk of either kind. -/
theorem State.modeLaw_of_bypass {s : State} (hm : s.control.mode = .bypass)
    (hw : s.control.walk = none) (hr : s.port.rangeWalk = none)
    (ht : ∀ t : Tile, s.tiles[t] = .untracked) (hq : s.Quiet) : s.ModeLaw := by
  simp only [ModeLaw, hm, hw, hr]
  exact ⟨by simp, by simp, ht, hq⟩

/-- The mode law in ENGAGED: every tile is tracked. -/
theorem State.modeLaw_of_engaged {s : State} (hm : s.control.mode = .engaged)
    (hw : s.control.walk = none) (ht : ∀ t : Tile, s.tiles[t] ≠ .untracked) : s.ModeLaw := by
  simp only [ModeLaw, hm, hw]
  exact ⟨by simp, by simp, ht⟩

/-- The mode law in DISENGAGING: no tile is UNTRACKED, QUEUED or FILLING. -/
theorem State.modeLaw_of_disengaging {s : State} (hm : s.control.mode = .disengaging)
    (hw : s.control.walk = none) (hr : s.port.rangeWalk = none) (hq : s.fillQueue = [])
    (ht : ∀ t : Tile, s.tiles[t] ≠ .untracked ∧ s.tiles[t] ≠ .queued ∧
      ∀ c, s.tiles[t] ≠ .filling c) : s.ModeLaw := by
  simp only [ModeLaw, hm, hw, hr]
  exact ⟨by simp, by simp, hq, ht⟩

/-- The mode law in RESTARTING asks only that no walk stands. -/
theorem State.modeLaw_of_restarting {s : State} (hm : s.control.mode = .restarting)
    (hw : s.control.walk = none) (hr : s.port.rangeWalk = none) : s.ModeLaw := by
  simp only [ModeLaw, hm, hw, hr]
  exact ⟨by simp, by simp, trivial⟩

/-- The mode law in ENGAGING: the tiles below the walk position have its option's state. -/
theorem State.modeLaw_of_engaging {s : State} {w : EngageWalk} (hm : s.control.mode = .engaging)
    (hw : s.control.walk = some w) (hr : s.port.rangeWalk = none) (hq : s.Quiet)
    (ht : ∀ t : Tile, (s.tiles[t] = .untracked ↔ w.pos ≤ t) ∧
      (t < w.pos → s.tiles[t] = w.option.tileState)) : s.ModeLaw := by
  simp only [ModeLaw, hm, hw, hr]
  refine ⟨by simp, by simp, hq, ?_⟩
  rintro _ ⟨⟩
  exact ht

/-- A range walk stands in ENGAGED only. -/
theorem State.ModeLaw.engaged_of_rangeWalk {s : State} {w : RangeWalk} (h : s.ModeLaw)
    (hw : s.port.rangeWalk = some w) : s.control.mode = .engaged := by
  obtain ⟨hr, -⟩ := h
  exact hr (by rw [hw]; rfl)

/-- An ENGAGE walk stands in ENGAGING only. -/
theorem State.ModeLaw.engaging_of_walk {s : State} {w : EngageWalk} (h : s.ModeLaw)
    (hw : s.control.walk = some w) : s.control.mode = .engaging := by
  obtain ⟨-, he, -⟩ := h
  exact he.1 (by rw [hw]; rfl)

/-- Outside ENGAGING no ENGAGE walk stands. -/
theorem State.ModeLaw.walk_none {s : State} (h : s.ModeLaw) (hm : s.control.mode ≠ .engaging) :
    s.control.walk = none := by
  obtain ⟨-, he, -⟩ := h
  cases hw : s.control.walk with
  | none => rfl
  | some w => exact absurd (he.1 (by rw [hw]; rfl)) hm

/-- Outside ENGAGED no range walk stands. -/
theorem State.ModeLaw.rangeWalk_none {s : State} (h : s.ModeLaw) (hm : s.control.mode ≠ .engaged) :
    s.port.rangeWalk = none := by
  cases hw : s.port.rangeWalk with
  | none => rfl
  | some w => exact absurd (h.engaged_of_rangeWalk hw) hm

/-- In ENGAGED every tile is tracked. -/
theorem State.ModeLaw.tracked {s : State} (h : s.ModeLaw) (hm : s.control.mode = .engaged)
    (t : Tile) : s.tiles[t] ≠ .untracked := by
  obtain ⟨-, -, h⟩ := h
  rw [hm] at h
  exact h t

/-- In BYPASS no tile is tracked and the Fill Engine is quiet. -/
theorem State.ModeLaw.bypass {s : State} (h : s.ModeLaw) (hm : s.control.mode = .bypass) :
    (∀ t : Tile, s.tiles[t] = .untracked) ∧ s.Quiet := by
  obtain ⟨-, -, h⟩ := h
  rwa [hm] at h

/-- In ENGAGING the tiles below the walk position have its option's state. -/
theorem State.ModeLaw.engaging {s : State} {w : EngageWalk} (h : s.ModeLaw)
    (hw : s.control.walk = some w) :
    s.Quiet ∧ ∀ t : Tile, (s.tiles[t] = .untracked ↔ w.pos ≤ t) ∧
      (t < w.pos → s.tiles[t] = w.option.tileState) := by
  have hm := h.engaging_of_walk hw
  obtain ⟨-, -, h⟩ := h
  rw [hm] at h
  exact ⟨h.1, h.2 w hw⟩

/-- In DISENGAGING the Fill Queue is empty and no tile is UNTRACKED, QUEUED or FILLING. -/
theorem State.ModeLaw.disengaging {s : State} (h : s.ModeLaw)
    (hm : s.control.mode = .disengaging) :
    s.fillQueue = [] ∧ ∀ t : Tile, s.tiles[t] ≠ .untracked ∧ s.tiles[t] ≠ .queued ∧
      ∀ c, s.tiles[t] ≠ .filling c := by
  obtain ⟨-, -, h⟩ := h
  rwa [hm] at h

/-- The mode law is kept where the mode, the walks and the tiles are, and the Fill Engine stays as
quiet as it was. -/
theorem State.ModeLaw.of_tiles_eq {s t : State} (h : s.ModeLaw) (hc : t.control = s.control)
    (hr : t.port.rangeWalk = s.port.rangeWalk) (ht : t.tiles = s.tiles)
    (hq : s.fillQueue = [] → t.fillQueue = [])
    (hi : ∀ c, (s.chan c).state = .idle → (t.chan c).state = .idle) : t.ModeLaw := by
  have hquiet : s.Quiet → t.Quiet := by
    simp only [State.quiet_iff]
    rintro ⟨h1, h2⟩
    exact ⟨fun c => hi c (h1 c), hq h2⟩
  obtain ⟨h1, h2, h3⟩ := h
  refine ⟨by rwa [hr, hc], by rwa [hc], ?_⟩
  rw [hc]
  split at h3
  · exact ⟨by rw [ht]; exact h3.1, hquiet h3.2⟩
  · exact ⟨hquiet h3.1, by rw [ht]; exact h3.2⟩
  · rw [ht]; exact h3
  · exact ⟨hq h3.1, by rw [ht]; exact h3.2⟩
  · trivial

/-- A tile is QUEUED or FILLING in ENGAGED and RESTARTING only (spec/01 R6). -/
theorem State.TrackingLaw.mode_of_filled {s : State} (h : s.TrackingLaw) {t : Tile}
    (ht : s.tiles[t] = .queued ∨ ∃ c, s.tiles[t] = .filling c) :
    s.control.mode = .engaged ∨ s.control.mode = .restarting := by
  obtain ⟨⟨-, hq⟩, hf, -, -, hm⟩ := h
  have hnq : ¬ s.Quiet := by
    rw [State.quiet_iff]
    rintro ⟨hi, he⟩
    rcases ht with ht | ⟨c, ht⟩
    · have := (hq t).2 ht
      simp [he] at this
    · have := (hf c t).2 ht
      simp [hi c] at this
  cases hmode : s.control.mode with
  | bypass => exact absurd (hm.bypass hmode).2 hnq
  | engaging =>
    obtain ⟨-, -, hm⟩ := hm
    rw [hmode] at hm
    exact absurd hm.1 hnq
  | engaged => exact .inl rfl
  | disengaging =>
    obtain ⟨-, hd⟩ := hm.disengaging hmode
    obtain ⟨-, h1, h2⟩ := hd t
    rcases ht with ht | ⟨c, ht⟩
    · exact absurd ht h1
    · exact absurd ht (h2 c)
  | restarting => exact .inr rfl

/-- In ENGAGED and RESTARTING the mode law asks of the tiles only that none becomes UNTRACKED. -/
theorem State.ModeLaw.of_tracked {s t : State} (h : s.ModeLaw)
    (hm : s.control.mode = .engaged ∨ s.control.mode = .restarting) (hc : t.control = s.control)
    (hr : t.port.rangeWalk = s.port.rangeWalk)
    (ht : ∀ k : Tile, t.tiles[k] = s.tiles[k] ∨ t.tiles[k] ≠ .untracked) : t.ModeLaw := by
  rcases hm with hm | hm
  · refine modeLaw_of_engaged (by rw [hc, hm]) (by rw [hc, h.walk_none (by simp [hm])]) fun k => ?_
    rcases ht k with hk | hk
    · rw [hk]; exact h.tracked hm k
    · exact hk
  · exact modeLaw_of_restarting (by rw [hc, hm]) (by rw [hc, h.walk_none (by simp [hm])])
      (by rw [hr, h.rangeWalk_none (by simp [hm])])

/-! ### Rules for the changes of tiles, channels and the Fill Queue -/

/-- What the tracking law reads: the tiles, the Fill Queue, the channels, the mode, the settings and
the range walk. -/
def State.tracked (s : State) :
    Vector TileState 128 × List Tile × Channel × Channel × ModeControl × Settings ×
      Option RangeWalk :=
  (s.tiles, s.fillQueue, s.chan0, s.chan1, s.control, s.settings, s.port.rangeWalk)

/-- The tracking law reads nothing else. -/
theorem State.TrackingLaw.congr {s t : State} (h : s.TrackingLaw) (he : t.tracked = s.tracked) :
    t.TrackingLaw := by
  simp only [State.tracked, Prod.mk.injEq] at he
  obtain ⟨ht, hq, h0, h1, hc, hg, hr⟩ := he
  obtain ⟨hqueue, hfill, hlist, hask, hmode⟩ := h
  have hch := State.chan_congr h0 h1
  refine ⟨?_, ?_, ?_, ?_, ?_⟩
  · simpa only [FillQueueLaw, ht, hq] using hqueue
  · simpa only [FillingLaw, ht, hch] using hfill
  · simpa only [ListLaw, hg, hch] using hlist
  · simpa only [AskLaw, hc, hg, hch] using hask
  · exact hmode.of_tiles_eq hc hr ht (by simp [hq]) (by simp [hch])

/-- The lists and requests of the channels after one of them was set. -/
theorem State.TrackingLaw.lists_setChan {s : State} (h : s.TrackingLaw) (c : Chan) {r : Channel}
    (hl : r.ListLaw s.settings.burstCount) :
    (s.setChan c r).ListLaw ∧ (s.setChan c r).AskLaw := by
  obtain ⟨-, -, hlist, hask, -⟩ := h
  refine ⟨fun k => ?_, fun k => ?_⟩ <;> rw [State.setChan_get] <;> split
  · simpa using hl
  · simpa using hlist k
  · simp
  · simpa using hask k

/-- A channel's new record keeps the law where its lists meet theirs and it serves the tile it
served. -/
theorem State.TrackingLaw.setChan {s : State} (h : s.TrackingLaw) (c : Chan) {r : Channel}
    (hl : r.ListLaw s.settings.burstCount)
    (hf : ∀ t, r.state = .filling t ↔ (s.chan c).state = .filling t)
    (hi : (s.chan c).state = .idle → r.state = .idle) : (s.setChan c r).TrackingLaw := by
  obtain ⟨hlist, hask⟩ := h.lists_setChan c hl
  obtain ⟨hqueue, hfill, -, -, hmode⟩ := h
  refine ⟨?_, ?_, hlist, hask, ?_⟩
  · simpa [FillQueueLaw] using hqueue
  · intro k t
    rw [State.setChan_get, State.setChan_tiles]
    split
    · next hk => subst hk; exact (hf t).trans (hfill k t)
    · exact hfill k t
  · refine hmode.of_tiles_eq (by simp) (by simp) (by simp) (by simp) fun k => ?_
    rw [State.setChan_get]
    split
    · next hk => subst hk; exact hi
    · exact id

/-- The same, for a record in the same state. -/
theorem State.TrackingLaw.setChan_of_state {s : State} (h : s.TrackingLaw) (c : Chan) {r : Channel}
    (hl : r.ListLaw s.settings.burstCount) (hs : r.state = (s.chan c).state) :
    (s.setChan c r).TrackingLaw :=
  h.setChan c hl (by simp [hs]) (by simp [hs])

/-- A tile that is neither UNTRACKED, QUEUED nor FILLING. -/
def TileState.plain : TileState → Bool
  | .void => true
  | .live => true
  | .discarded => true
  | .failed => true
  | .untracked => false
  | .queued => false
  | .filling _ => false

/-- A plain record is none of the other three. -/
theorem TileState.plain_iff (x : TileState) :
    x.plain = true ↔ x ≠ .untracked ∧ x ≠ .queued ∧ ∀ c, x ≠ .filling c := by
  cases x <;> simp [TileState.plain]

/-- The law is kept where one tile takes a record, the Fill Queue and the channels follow it, and
all else stays. -/
theorem State.TrackingLaw.retile {s u : State} (h : s.TrackingLaw)
    (hm : s.control.mode = .engaged ∨ s.control.mode = .restarting) {t : Tile} {x : TileState}
    (hx : x ≠ .untracked) (ht : ∀ k : Tile, u.tiles[k] = if k = t then x else s.tiles[k])
    (hnd : u.fillQueue.Nodup)
    (hq : ∀ k, k ∈ u.fillQueue ↔ if k = t then x = .queued else k ∈ s.fillQueue)
    (hf : ∀ c k, (u.chan c).state = .filling k ↔
      if k = t then x = .filling c else (s.chan c).state = .filling k)
    (hl : u.ListLaw) (ha : u.AskLaw) (hc : u.control = s.control)
    (hr : u.port.rangeWalk = s.port.rangeWalk) : u.TrackingLaw := by
  obtain ⟨⟨-, hqueue⟩, hfill, -, -, hmode⟩ := h
  refine ⟨⟨hnd, fun k => ?_⟩, fun c k => ?_, hl, ha, ?_⟩
  · rw [hq, ht]
    split
    · rfl
    · exact hqueue k
  · rw [hf, ht]
    split
    · rfl
    · exact hfill c k
  · refine hmode.of_tracked hm hc hr fun k => ?_
    rw [ht]
    split
    · exact .inr hx
    · exact .inl rfl

/-- A tile that is not QUEUED is not in the Fill Queue. -/
theorem State.TrackingLaw.not_mem_queue {s : State} (h : s.TrackingLaw) {t : Tile}
    (ht : s.tiles[t] ≠ .queued) : t ∉ s.fillQueue := by
  obtain ⟨⟨-, hqueue⟩, -⟩ := h
  exact fun hin => ht ((hqueue t).1 hin)

/-- A channel serves no tile that is not FILLING naming it. -/
theorem State.TrackingLaw.not_filling {s : State} (h : s.TrackingLaw) {t : Tile} {c : Chan}
    (ht : s.tiles[t] ≠ .filling c) : (s.chan c).state ≠ .filling t := by
  obtain ⟨-, hfill, -⟩ := h
  exact fun hin => ht ((hfill c t).1 hin)

/-- In ENGAGED, a change of one plain record to another keeps the law (spec/01 R10, R13, R14). -/
theorem State.TrackingLaw.setTile_plain {s : State} (h : s.TrackingLaw)
    (hm : s.control.mode = .engaged) {t : Tile} {x : TileState} (ht : s.tiles[t].plain = true)
    (hx : x.plain = true) : (s.setTile t x).TrackingLaw := by
  rw [TileState.plain_iff] at ht hx
  obtain ⟨-, htq, htf⟩ := ht
  obtain ⟨hxu, hxq, hxf⟩ := hx
  obtain ⟨⟨hnd, -⟩, -, hlist, hask, -⟩ := id h
  refine h.retile (.inl hm) hxu (s.setTile_get t · x) hnd (fun k => ?_) (fun c k => ?_)
    hlist hask rfl rfl
  · split
    · next hk => subst hk; simpa [hxq] using h.not_mem_queue htq
    · rfl
  · split
    · next hk => subst hk; simpa [hxf] using h.not_filling (htf c)
    · simp

/-- In ENGAGED, a plain tile becomes QUEUED where it joins the Fill Queue once (spec/01 R9, R14). -/
theorem State.TrackingLaw.enqueue {s : State} (h : s.TrackingLaw) (hm : s.control.mode = .engaged)
    {t : Tile} (ht : s.tiles[t].plain = true) {q : List Tile} (hq : q.Perm (t :: s.fillQueue)) :
    ({ s.setTile t .queued with fillQueue := q } : State).TrackingLaw := by
  rw [TileState.plain_iff] at ht
  obtain ⟨-, htq, htf⟩ := ht
  obtain ⟨⟨hnd, -⟩, -, hlist, hask, -⟩ := id h
  refine h.retile (.inl hm) (by simp) (s.setTile_get t · .queued)
    (hq.nodup_iff.2 (List.nodup_cons.2 ⟨h.not_mem_queue htq, hnd⟩)) (fun k => ?_) (fun c k => ?_)
    hlist hask rfl rfl
  · rw [hq.mem_iff, List.mem_cons]
    by_cases hk : k = t <;> simp [hk]
  · show (s.chan c).state = .filling k ↔ _
    split
    · next hk => subst hk; simpa using h.not_filling (htf c)
    · rfl

/-- A QUEUED tile becomes plain where it leaves the Fill Queue (spec/01 R13, R14, spec/03 R69). -/
theorem State.TrackingLaw.dequeue {s : State} (h : s.TrackingLaw) {t : Tile} {x : TileState}
    (ht : s.tiles[t] = .queued) (hx : x.plain = true) :
    ({ s.setTile t x with fillQueue := s.fillQueue.erase t } : State).TrackingLaw := by
  rw [TileState.plain_iff] at hx
  obtain ⟨hxu, hxq, hxf⟩ := hx
  obtain ⟨⟨hnd, -⟩, -, hlist, hask, -⟩ := id h
  refine h.retile (h.mode_of_filled (.inl ht)) hxu (s.setTile_get t · x) (hnd.erase t)
    (fun k => ?_) (fun c k => ?_) hlist hask rfl rfl
  · rw [hnd.mem_erase_iff]
    by_cases hk : k = t <;> simp [hk, hxq]
  · show (s.chan c).state = .filling k ↔ _
    split
    · next hk => subst hk; simpa [hxf] using h.not_filling (c := c) (by rw [ht]; simp)
    · rfl

/-- The Fill Queue may be put in another order (spec/03 R69). -/
theorem State.TrackingLaw.reorder {s : State} (h : s.TrackingLaw) {q : List Tile}
    (hq : q.Perm s.fillQueue) : ({ s with fillQueue := q } : State).TrackingLaw := by
  obtain ⟨⟨hnd, hqueue⟩, hfill, hlist, hask, hmode⟩ := h
  refine ⟨⟨hq.nodup_iff.2 hnd, fun k => hq.mem_iff.trans (hqueue k)⟩, hfill, hlist, hask, ?_⟩
  refine hmode.of_tiles_eq rfl rfl rfl (fun he => ?_) (fun _ => id)
  rw [he] at hq
  exact hq.eq_nil

/-- In ENGAGED, a plain tile starts on an IDLE channel (spec/01 R8). -/
theorem State.TrackingLaw.startFill {s : State} (h : s.TrackingLaw)
    (hm : s.control.mode = .engaged) {t : Tile} {c : Chan} (ht : s.tiles[t].plain = true)
    (hc : (s.chan c).state = .idle) : (s.startFill t c).TrackingLaw := by
  rw [TileState.plain_iff] at ht
  obtain ⟨-, htq, htf⟩ := ht
  have hl : ((s.chan c).started t).ListLaw s.settings.burstCount := by
    simp [Channel.ListLaw, Channel.started]
  obtain ⟨hlist, hask⟩ := h.lists_setChan c hl
  obtain ⟨⟨hnd, -⟩, -⟩ := id h
  refine h.retile (t := t) (x := .filling c) (.inl hm) (by simp) (fun k => ?_) (by simpa using hnd)
    (fun k => ?_) (fun d k => ?_) ?_ ?_ (by simp) (by simp)
  · rw [State.startFill, State.setChan_tiles, State.setTile_get]
  · rw [State.startFill_fillQueue]
    split
    · next hk => subst hk; simpa using h.not_mem_queue htq
    · rfl
  · rw [State.startFill, State.setChan_get]
    by_cases hd : d = c
    · subst hd
      by_cases hk : k = t
      · simp [hk, Channel.started]
      · simpa [hk, Channel.started, hc] using Ne.symm hk
    · rw [if_neg hd, State.setTile_chan]
      split
      · next hk => subst hk; simpa [Ne.symm hd] using h.not_filling (htf d)
      · rfl
  · exact fun d => by simpa [State.startFill, State.setChan_get] using hlist d
  · exact fun d => by simpa [State.startFill, State.setChan_get] using hask d

/-- A FILLING tile becomes plain where its channel leaves it (spec/01 R12, R13). -/
theorem State.TrackingLaw.stopFill {s : State} (h : s.TrackingLaw) {t : Tile} {c : Chan}
    {x : TileState} {r : Channel} (ht : s.tiles[t] = .filling c) (hx : x.plain = true)
    (hl : r.ListLaw s.settings.burstCount) (hr : ∀ k, r.state ≠ .filling k) :
    ((s.setTile t x).setChan c r).TrackingLaw := by
  rw [TileState.plain_iff] at hx
  obtain ⟨hxu, hxq, hxf⟩ := hx
  obtain ⟨hlist, hask⟩ := h.lists_setChan c hl
  obtain ⟨⟨hnd, -⟩, hfill, -⟩ := id h
  refine h.retile (t := t) (h.mode_of_filled (.inr ⟨c, ht⟩)) hxu (fun k => ?_) (by simpa using hnd)
    (fun k => ?_) (fun d k => ?_) ?_ ?_ (by simp) (by simp)
  · rw [State.setChan_tiles, State.setTile_get]
  · rw [State.setChan_fillQueue, State.setTile_fillQueue]
    split
    · next hk => subst hk; simpa [hxq] using h.not_mem_queue (by rw [ht]; simp)
    · rfl
  · rw [State.setChan_get]
    by_cases hd : d = c
    · subst hd
      by_cases hk : k = t
      · simp [hk, hr, hxf]
      · simpa [hk, hr, (hfill d t).2 ht] using Ne.symm hk
    · rw [if_neg hd, State.setTile_chan]
      split
      · next hk =>
        subst hk
        have hne : s.tiles[k] ≠ .filling d := by rw [ht]; simpa using Ne.symm hd
        simpa [hxf] using h.not_filling hne
      · rfl
  · exact fun d => by simpa [State.setChan_get] using hlist d
  · exact fun d => by simpa [State.setChan_get] using hask d

end Sys2Proof.Machine
end

section
/-! The lists of the channels (spec/03 R50 to R54) under the operations of the Fill Engine. -/

namespace Sys2Proof.Machine

/-! ### The list law, state by state -/

/-- An in-flight list is strictly ascending, below the cursor, with at most 4 entries
(spec/03 R54). -/
def Channel.FlightsOk (r : Channel) : Prop :=
  r.inFlight.Pairwise (fun a b => a.offset < b.offset) ∧
  (∀ e ∈ r.inFlight, e.offset < r.cursor) ∧ r.inFlight.length ≤ 4

/-- A skip list of a FILLING channel is strictly ascending from the cursor on, below the burst
count, with at most 32 entries (spec/03 R50). -/
def Channel.SkipsOk (bursts : Nat) (r : Channel) : Prop :=
  r.cursor ≤ bursts ∧ r.skip.Pairwise (fun a b => a.offset < b.offset) ∧ r.skip.length ≤ 32 ∧
  ∀ e ∈ r.skip, r.cursor ≤ e.offset ∧ e.offset < bursts

/-- The in-flight list is in order in every state. -/
theorem Channel.ListLaw.flights {n : Nat} {r : Channel} (h : r.ListLaw n) : r.FlightsOk := by
  obtain ⟨h1, h2, h3, -⟩ := h
  exact ⟨h1, h2, h3⟩

/-- The list law of a FILLING channel. -/
theorem Channel.listLaw_filling {n : Nat} {r : Channel} {t : Tile} (hs : r.state = .filling t) :
    r.ListLaw n ↔ r.FlightsOk ∧ r.SkipsOk n := by
  simp [ListLaw, FlightsOk, SkipsOk, hs, and_assoc]

/-- The list law of an IDLE channel. -/
theorem Channel.listLaw_idle {n : Nat} {r : Channel} (hs : r.state = .idle) :
    r.ListLaw n ↔ r.cursor = 0 ∧ r.skip = [] ∧ r.inFlight = [] := by
  simp only [ListLaw, hs]
  constructor
  · rintro ⟨-, -, -, h⟩
    exact h
  · rintro ⟨h1, h2, h3⟩
    simp [h1, h2, h3]

/-- The list law of a CANCELLING channel. -/
theorem Channel.listLaw_cancelling {n : Nat} {r : Channel} (hs : r.state = .cancelling) :
    r.ListLaw n ↔
      r.FlightsOk ∧ r.skip = [] ∧ r.inFlight ≠ [] ∧ ∀ e ∈ r.inFlight, e.isIssued = true := by
  simp [ListLaw, FlightsOk, hs, and_assoc]

/-- The burst count matters to a FILLING channel only. -/
theorem Channel.listLaw_of_not_filling {n m : Nat} {r : Channel} (hs : ∀ t, r.state ≠ .filling t)
    (h : r.ListLaw n) : r.ListLaw m := by
  cases hr : r.state with
  | idle => rw [listLaw_idle hr] at *; exact h
  | filling t => exact absurd hr (hs t)
  | cancelling => rw [listLaw_cancelling hr] at *; exact h

/-- The three states of a channel (spec/03 R47). -/
theorem ChanState.cases (x : ChanState) : x = .idle ∨ (∃ t, x = .filling t) ∨ x = .cancelling := by
  cases x <;> simp

/-- What a channel asks for depends on the mode only through RESTARTING (spec/03 R57). -/
theorem Channel.wants_mode {m m' : Mode} (n : Nat) (r : Channel)
    (h : m = .restarting ↔ m' = .restarting) : r.wants m n = r.wants m' n := by
  have hb : (m != .restarting) = (m' != .restarting) := by
    rw [Bool.eq_iff_iff]
    simp [h]
  simp only [Channel.wants, hb]

/-! ### Lists whose offsets are kept or thinned out -/

/-- An ascending list stays so where its offsets are thinned out. -/
theorem pairwise_of_offsets {α β : Type} {f : α → Nat} {g : β → Nat} {xs : List α} {ys : List β}
    (h : (ys.map g).Sublist (xs.map f)) (hx : xs.Pairwise fun a b => f a < f b) :
    ys.Pairwise fun a b => g a < g b := by
  rw [← List.pairwise_map (R := (· < ·))] at *
  exact hx.sublist h

/-- A bound on the offsets holds still where they are thinned out. -/
theorem forall_of_offsets {α β : Type} {f : α → Nat} {g : β → Nat} {xs : List α} {ys : List β}
    {p : Nat → Prop} (h : (ys.map g).Sublist (xs.map f)) (hx : ∀ a ∈ xs, p (f a)) :
    ∀ b ∈ ys, p (g b) := by
  intro b hb
  obtain ⟨a, ha, hab⟩ := List.mem_map.1 (h.subset (List.mem_map_of_mem hb))
  exact hab ▸ hx a ha

/-- The in-flight list stays in order where its offsets are thinned out. -/
theorem Channel.FlightsOk.thin {r r' : Channel} (h : r.FlightsOk) (hc : r'.cursor = r.cursor)
    (hs : (r'.inFlight.map FlightEntry.offset).Sublist (r.inFlight.map FlightEntry.offset)) :
    r'.FlightsOk := by
  obtain ⟨h1, h2, h3⟩ := h
  refine ⟨pairwise_of_offsets hs h1, ?_, ?_⟩
  · rw [hc]; exact forall_of_offsets (p := (· < r.cursor)) hs h2
  · have := hs.length_le
    simp only [List.length_map] at this
    omega

/-- The skip list stays in order where its offsets are thinned out. -/
theorem Channel.SkipsOk.thin {n : Nat} {r r' : Channel} (h : r.SkipsOk n)
    (hc : r'.cursor = r.cursor)
    (hs : (r'.skip.map SkipEntry.offset).Sublist (r.skip.map SkipEntry.offset)) :
    r'.SkipsOk n := by
  obtain ⟨h1, h2, h3, h4⟩ := h
  refine ⟨by rwa [hc], pairwise_of_offsets hs h2, ?_, ?_⟩
  · have := hs.length_le
    simp only [List.length_map] at this
    omega
  · rw [hc]; exact forall_of_offsets (p := fun o => r.cursor ≤ o ∧ o < n) hs h4

/-- Dropping entries thins the offsets out. -/
theorem dropFlight_offsets (o : Nat) (xs : List FlightEntry) :
    ((dropFlight o xs).map FlightEntry.offset).Sublist (xs.map FlightEntry.offset) :=
  List.filter_sublist.map _

/-- A new attempt or status keeps every offset. -/
@[simp] theorem setFlight_offsets (o : Nat) (a : Attempt) (st : FlightStatus)
    (xs : List FlightEntry) :
    (setFlight o a st xs).map FlightEntry.offset = xs.map FlightEntry.offset := by
  rw [setFlight, List.map_map]
  refine List.map_congr_left fun e _ => ?_
  simp only [Function.comp]
  split <;> rfl

/-- A re-issue keeps every offset. -/
@[simp] theorem reissueSkip_offsets (o : Nat) (t : Tag) (xs : List SkipEntry) :
    (reissueSkip o t xs).map SkipEntry.offset = xs.map SkipEntry.offset := by
  rw [reissueSkip, List.map_map]
  refine List.map_congr_left fun e _ => ?_
  simp only [Function.comp]
  split <;> rfl

/-- The outcome of a skip-linked write keeps the offsets, or takes one away. -/
theorem settleSkip_offsets (o : Nat) (t : Tag) (ok : Bool) (xs : List SkipEntry) :
    ((settleSkip o t ok xs).map SkipEntry.offset).Sublist (xs.map SkipEntry.offset) := by
  induction xs with
  | nil => exact .slnil
  | cons x xs ih =>
    unfold settleSkip
    split
    · cases ok
      · exact List.sublist_cons_self _ _
      · exact .refl _
    · exact ih.cons_cons _

/-- A new skip entry is one more entry. -/
theorem insertSkip_perm (e : SkipEntry) (xs : List SkipEntry) :
    (insertSkip e xs).Perm (e :: xs) := by
  induction xs with
  | nil => exact .refl _
  | cons x xs ih =>
    unfold insertSkip
    split
    · exact .refl _
    · exact (ih.cons x).trans (.swap e x xs)

/-- A new skip entry keeps the list in order where none has its offset (spec/03 R50, R51). -/
theorem Channel.SkipsOk.insert {n : Nat} {r : Channel} (h : r.SkipsOk n) (e : SkipEntry)
    (hnone : r.skipAt e.offset = none) (hlen : r.skip.length < 32) (hlo : r.cursor ≤ e.offset)
    (hhi : e.offset < n) : Channel.SkipsOk n { r with skip := insertSkip e r.skip } := by
  obtain ⟨h1, h2, h3, h4⟩ := h
  have hne : ∀ x ∈ r.skip, x.offset ≠ e.offset := by simpa [Channel.skipAt] using hnone
  have hp := insertSkip_perm e r.skip
  refine ⟨h1, ?_, ?_, ?_⟩
  · show (insertSkip e r.skip).Pairwise _
    rw [insertSkip_eq e r.skip h2 hne, List.append_assoc, List.pairwise_append]
    refine ⟨h2.filter _, ?_, ?_⟩
    · rw [List.singleton_append, List.pairwise_cons]
      exact ⟨by simp, h2.filter _⟩
    · simp only [List.mem_filter, List.singleton_append, List.mem_cons, decide_eq_true_eq]
      rintro a ⟨-, ha⟩ b (rfl | ⟨-, hb⟩)
      · exact ha
      · omega
  · show (insertSkip e r.skip).length ≤ 32
    rw [hp.length_eq, List.length_cons]
    omega
  · intro x hx
    rcases List.mem_cons.1 (hp.mem_iff.1 hx) with rfl | hx
    · exact ⟨hlo, hhi⟩
    · exact h4 x hx

/-! ### Channels that leave FILLING -/

/-- A channel that lost its tile never stands FILLING. -/
theorem Channel.leaving_not_filling (r : Channel) (l : List FlightEntry) (t : Tile) :
    (r.leaving l).state ≠ .filling t := by
  simp only [Channel.leaving]
  split <;> simp

/-- A channel that lost its tile awaits ISSUED entries of its own (spec/03 R76, R77). -/
theorem Channel.FlightsOk.leaving {r : Channel} (h : r.FlightsOk) (n : Nat) {l : List FlightEntry}
    (hl : (l.map FlightEntry.offset).Sublist (r.inFlight.map FlightEntry.offset))
    (hi : ∀ e ∈ l, e.isIssued = true) : (r.leaving l).ListLaw n := by
  by_cases he : l = []
  · rw [listLaw_idle (by simp [Channel.leaving, he])]
    simp [Channel.leaving, he]
  · rw [listLaw_cancelling (by simp [Channel.leaving, he])]
    exact ⟨h.thin (by simp [Channel.leaving, he]) hl, rfl, he, hi⟩

/-- The lists of a channel that cancels (spec/03 R76). -/
theorem Channel.FlightsOk.cancelled {r : Channel} (h : r.FlightsOk) (n : Nat) :
    r.cancelled.ListLaw n := by
  rw [Channel.cancelled_eq]
  refine h.leaving n (List.filter_sublist.map _) fun e he => ?_
  rw [FlightEntry.isIssued_eq]
  exact (List.mem_filter.1 he).2

/-- A channel that cancels stands FILLING no more. -/
theorem Channel.cancelled_not_filling (r : Channel) (t : Tile) :
    r.cancelled.state ≠ .filling t := by
  rw [Channel.cancelled_eq]
  exact r.leaving_not_filling _ t

/-- The lists of a completed channel (spec/03 R67). -/
theorem Channel.listLaw_finished (n : Nat) (r : Channel) : r.finished.ListLaw n := by
  rw [listLaw_idle rfl]
  exact ⟨rfl, rfl, rfl⟩

/-- The lists of a channel whose in-flight entry leaves with its outcome ignored (spec/03 R66,
R77). -/
theorem Channel.ListLaw.ignored {n : Nat} {r : Channel} (h : r.ListLaw n) (o : Nat) :
    (Channel.settled { r with inFlight := dropFlight o r.inFlight }).ListLaw n := by
  obtain hs | ⟨t, hs⟩ | hs := r.state.cases
  · rw [Channel.settled_eq_self _ (by simp [hs])]
    rw [listLaw_idle hs] at h
    obtain ⟨h1, h2, h3⟩ := h
    exact (listLaw_idle (by exact hs)).2 ⟨h1, h2, by simp [dropFlight, h3]⟩
  · rw [Channel.settled_eq_self _ (by simp [hs])]
    rw [listLaw_filling hs] at h
    obtain ⟨hf, hk⟩ := h
    exact (listLaw_filling (by exact hs)).2 ⟨hf.thin rfl (dropFlight_offsets o _), hk⟩
  · rw [listLaw_cancelling hs] at h
    obtain ⟨hf, hk, -, hi⟩ := h
    rw [Channel.settled_eq_leaving r _ hs hk]
    exact hf.leaving n (dropFlight_offsets o _) fun e he => hi e (List.mem_filter.1 he).1

/-- The lists of a channel that takes the outcome of a skip-linked write (spec/03 R52). -/
theorem Channel.ListLaw.skipSettled {n : Nat} {r : Channel} (h : r.ListLaw n) (o : Nat) (t : Tag)
    (ok : Bool) : Channel.ListLaw n { r with skip := settleSkip o t ok r.skip } := by
  obtain hs | ⟨k, hs⟩ | hs := r.state.cases
  · rw [listLaw_idle hs] at h
    obtain ⟨h1, h2, h3⟩ := h
    exact (listLaw_idle (by exact hs)).2 ⟨h1, by simp [h2, settleSkip], h3⟩
  · rw [listLaw_filling hs] at h
    obtain ⟨hf, hk⟩ := h
    exact (listLaw_filling (by exact hs)).2 ⟨hf, hk.thin rfl (settleSkip_offsets _ _ _ _)⟩
  · rw [listLaw_cancelling hs] at h
    obtain ⟨h1, h2, h3⟩ := h
    exact (listLaw_cancelling (by exact hs)).2 ⟨h1, by simp [h2, settleSkip], h3⟩

/-- A channel that settles serves the tile it served. -/
theorem Channel.settled_filling (r : Channel) (t : Tile) :
    r.settled.state = .filling t ↔ r.state = .filling t := by
  unfold Channel.settled
  split
  · next h => simp [h.1]
  · rfl

/-- An IDLE channel settles IDLE. -/
theorem Channel.settled_idle {r : Channel} (h : r.state = .idle) : r.settled.state = .idle := by
  rw [Channel.settled_eq_self r (by simp [h]), h]

end Sys2Proof.Machine
end

section
/-! Every step keeps the tracking law (O6): the operations the commands share, then the commands. -/

namespace Sys2Proof.Machine

/-! ### Operations that write nothing the law reads -/

theorem State.TrackingLaw.post {s : State} (h : s.TrackingLaw) (n : Notice) :
    (s.post n).TrackingLaw := h.congr rfl

theorem State.TrackingLaw.respond {s : State} (h : s.TrackingLaw) (t : HostTag) (st : HostStatus)
    (d : Option Burst) : (s.respond t st d).TrackingLaw := h.congr rfl

theorem State.TrackingLaw.returnCredits {s : State} (h : s.TrackingLaw) (n : Nat) :
    (s.returnCredits n).TrackingLaw := h.congr rfl

theorem State.TrackingLaw.setTag {s : State} (h : s.TrackingLaw) (t : Tag) (e : TagEntry) :
    (s.setTag t e).TrackingLaw := h.congr rfl

theorem State.TrackingLaw.reach {s : State} (h : s.TrackingLaw) (d : Micros) :
    (s.reach d).TrackingLaw := h.congr rfl

theorem State.TrackingLaw.dropHead {s : State} (h : s.TrackingLaw) : s.dropHead.TrackingLaw :=
  h.congr rfl

theorem State.TrackingLaw.setHead {s : State} (h : s.TrackingLaw) (k : HeadClass) :
    (s.setHead k).TrackingLaw := h.congr rfl

theorem State.TrackingLaw.popHead {s : State} (h : s.TrackingLaw) : s.popHead.TrackingLaw :=
  h.congr rfl

theorem State.TrackingLaw.sendExit {s : State} (h : s.TrackingLaw) (n : Nat) :
    (s.sendExit n).TrackingLaw := h.congr rfl

theorem State.TrackingLaw.needRelease {s : State} (h : s.TrackingLaw) :
    s.needRelease.TrackingLaw := h.congr rfl

theorem State.TrackingLaw.setRet {s : State} (h : s.TrackingLaw) (r : Retention) :
    ({ s with ret := r } : State).TrackingLaw := h.congr rfl

theorem State.TrackingLaw.setPins {s : State} (h : s.TrackingLaw) (p : Pins) :
    ({ s with pins := p } : State).TrackingLaw := h.congr rfl

theorem State.TrackingLaw.setLink {s : State} (h : s.TrackingLaw) (l : MemLink) :
    ({ s with link := l } : State).TrackingLaw := h.congr rfl

theorem State.TrackingLaw.setHost {s : State} (h : s.TrackingLaw) (l : HostLink) :
    ({ s with host := l } : State).TrackingLaw := h.congr rfl

theorem State.TrackingLaw.setDispatch {s : State} (h : s.TrackingLaw) (d : DispatchUnit) :
    ({ s with dispatch := d } : State).TrackingLaw := h.congr rfl

theorem State.TrackingLaw.setFrame {s : State} (h : s.TrackingLaw) (f : Option Frame) :
    (s.setFrame f).TrackingLaw := h.congr rfl

/-- A flush answers the host and empties the Request Queue, and the law reads neither. -/
@[simp] theorem State.tracked_flush (s : State) (st : HostStatus) :
    (s.flush st).tracked = s.tracked := by
  simp only [State.flush, respondAll_eq]
  rfl

theorem State.TrackingLaw.flush {s : State} (h : s.TrackingLaw) (st : HostStatus) :
    (s.flush st).TrackingLaw := h.congr (s.tracked_flush st)

/-! ### Operations on channels -/

/-- Pausing, or ending a pause, keeps the law (spec/03 R49). -/
theorem State.TrackingLaw.setPaused {s : State} (h : s.TrackingLaw) (b : Bool) :
    (s.setPaused b).TrackingLaw := by
  have step {s : State} (h : s.TrackingLaw) (c : Chan) :
      (s.setChan c { s.chan c with paused := b }).TrackingLaw := by
    obtain ⟨-, -, hl, -⟩ := id h
    exact h.setChan_of_state c (hl c) rfl
  exact step (step h .ch0) .ch1

/-- The outcome of a skip-linked write keeps the law (spec/03 R52). -/
theorem State.TrackingLaw.handSkip {s : State} (h : s.TrackingLaw) (l : Option SkipLink) (t : Tag)
    (ok : Bool) : (s.handSkip l t ok).TrackingLaw := by
  cases l with
  | none => exact h
  | some l =>
    obtain ⟨-, -, hl, -⟩ := id h
    exact h.setChan_of_state l.chan ((hl l.chan).skipSettled l.offset t ok) rfl

/-- A claim of completion keeps the law (spec/01 R12, spec/03 R67). -/
theorem State.TrackingLaw.tryComplete {s : State} (h : s.TrackingLaw) (c : Chan) :
    (s.tryComplete c).TrackingLaw := by
  rcases tryComplete_cases s c with ⟨t, -, ht, -, -, he⟩ | he
  · rw [he]
    refine (h.stopFill ht rfl (Channel.listLaw_finished _ _) ?_).post _
    simp [Channel.finished]
  · rwa [he]

/-- A claim of failure keeps the law (spec/01 R12, spec/03 R65). -/
theorem State.TrackingLaw.failTile {s : State} (h : s.TrackingLaw) (c : Chan) (t : Tile) (o : Nat) :
    (s.failTile c t o).TrackingLaw := by
  unfold State.failTile
  split
  · next ht =>
    obtain ⟨-, -, hl, -⟩ := id h
    have hf : Channel.FlightsOk { s.chan c with inFlight := dropFlight o (s.chan c).inFlight } :=
      (hl c).flights.thin rfl (dropFlight_offsets o _)
    exact (h.stopFill ht rfl (hf.cancelled _) (Channel.cancelled_not_filling _)).post _
  · exact h

/-- New in-flight and skip lists of a FILLING channel keep the law where they are in order. -/
theorem State.TrackingLaw.setChan_filling {s : State} (h : s.TrackingLaw) {c : Chan} {t : Tile}
    (ht : (s.chan c).state = .filling t) {r : Channel} (hr : r.state = (s.chan c).state)
    (hf : (s.chan c).FlightsOk → (s.chan c).SkipsOk s.settings.burstCount → r.FlightsOk)
    (hk : (s.chan c).SkipsOk s.settings.burstCount → r.SkipsOk s.settings.burstCount) :
    (s.setChan c r).TrackingLaw := by
  obtain ⟨-, -, hl, -⟩ := id h
  have hl := hl c
  rw [Channel.listLaw_filling ht] at hl
  obtain ⟨h1, h2⟩ := hl
  refine h.setChan_of_state c ?_ hr
  rw [Channel.listLaw_filling (hr.trans ht)]
  exact ⟨hf h1 h2, hk h2⟩

/-- The outcome of a fill write keeps the law (spec/03 R61, R62, R65, R66, R78). -/
theorem State.TrackingLaw.handFill {s : State} (h : s.TrackingLaw) (c : Chan) (o : Nat) (t : Tag)
    (ok : Bool) : (s.handFill c o t ok).TrackingLaw := by
  have hignore : (s.ignoreFill c o).TrackingLaw := by
    obtain ⟨-, -, hl, -⟩ := id h
    exact h.setChan c ((hl c).ignored o) (Channel.settled_filling _)
      fun hi => Channel.settled_idle hi
  unfold State.handFill
  split
  · exact h
  · next e he =>
    split
    · exact hignore
    · split
      · exact hignore
      · exact hignore
      · next k hk =>
        split
        · refine (h.setChan_filling (r := { s.chan c with inFlight := dropFlight o _ }) hk rfl
            (fun hf _ => hf.thin rfl (dropFlight_offsets o _)) id).tryComplete c
        · split
          · refine (h.setChan_filling
              (r := { s.chan c with inFlight := setFlight o .second .retryWait _ }) hk rfl
              (fun hf _ => hf.thin rfl (by simp)) id).post _
          · exact h.failTile c k o

/-! ### Drains, the end of DISENGAGE and the RESTART clear -/

/-- Nothing is tracked: no tile, no queued tile, no FILLING channel, no walk, in BYPASS. -/
theorem State.trackingLaw_of_untracked {s : State} (hm : s.control.mode = .bypass)
    (hw : s.control.walk = none) (hr : s.port.rangeWalk = none) (hq : s.fillQueue = [])
    (ht : ∀ t : Tile, s.tiles[t] = .untracked) (hi : ∀ c, (s.chan c).state = .idle)
    (hl : s.ListLaw) (ha : ∀ c, (s.chan c).asks = false) : s.TrackingLaw := by
  refine ⟨⟨by simp [hq], fun t => ?_⟩, fun c t => ?_, hl, fun c => ?_,
    modeLaw_of_bypass hm hw hr ht ((s.quiet_iff).2 ⟨hi, hq⟩)⟩
  · rw [hq, ht]; simp
  · rw [hi, ht]; simp
  · rw [ha, Channel.wants_eq_false _ _ _ (by simp [hi])]

/-- A drain's start pauses the channels and keeps the law (spec/04 R84). -/
theorem State.TrackingLaw.startDrain {s : State} (h : s.TrackingLaw) :
    s.startDrain.TrackingLaw := by
  unfold State.startDrain
  split
  · exact ((h.setPaused true).dropHead).setRet _
  · exact h

/-- Drain completion makes DISCARDED tiles VOID, in BYPASS and ENGAGED, and keeps the law
(spec/04 R90). -/
theorem State.TrackingLaw.completeDrain {s : State} (h : s.TrackingLaw)
    (hm : s.control.mode.settled = true) : s.completeDrain.TrackingLaw := by
  have hdrop (k : Tile) : s.completeDrain.tiles[k] = s.tiles[k] ∨
      (s.tiles[k] = .discarded ∧ s.completeDrain.tiles[k] = .void) := by
    rw [State.completeDrain_tiles, Fin.getElem_fin, dropTiles_getElem]
    split
    · next hk => exact .inr ⟨hk.1, rfl⟩
    · exact .inl rfl
  obtain ⟨⟨hnd, hqueue⟩, hfill, hlist, hask, hmode⟩ := h
  refine ⟨⟨by simpa using hnd, fun k => ?_⟩, fun c k => ?_, fun c => by simpa using hlist c,
    fun c => by simpa using hask c, ?_⟩
  · rw [State.completeDrain_fillQueue, hqueue k]
    rcases hdrop k with hk | ⟨hk, hk'⟩
    · rw [hk]
    · rw [hk, hk']; simp
  · rw [State.completeDrain_chan, hfill c k]
    rcases hdrop k with hk | ⟨hk, hk'⟩
    · rw [hk]
    · rw [hk, hk']; simp
  · cases hmo : s.control.mode with
    | bypass =>
      obtain ⟨ht, hq⟩ := hmode.bypass hmo
      refine modeLaw_of_bypass (by simp [hmo]) (by simpa using hmode.walk_none (by simp [hmo]))
        (by simpa using hmode.rangeWalk_none (by simp [hmo])) (fun k => ?_)
        (by simpa [State.Quiet] using hq)
      rcases hdrop k with hk | ⟨hk, -⟩
      · rw [hk, ht]
      · rw [ht] at hk; cases hk
    | engaged =>
      refine hmode.of_tracked (.inl hmo) (by simp) (by simp) fun k => ?_
      rcases hdrop k with hk | ⟨-, hk⟩
      · exact .inl hk
      · exact .inr (by rw [hk]; simp)
    | engaging => simp [hmo, Mode.settled] at hm
    | disengaging => simp [hmo, Mode.settled] at hm
    | restarting => simp [hmo, Mode.settled] at hm

theorem State.TrackingLaw.settleDrain {s : State} (h : s.TrackingLaw) :
    s.settleDrain.TrackingLaw := by
  rcases settleDrain_cases s with ⟨-, -, hm, he⟩ | ⟨-, he⟩
  · rw [he]; exact h.completeDrain hm
  · rwa [he]

/-- The end of DISENGAGE keeps the law (spec/10 R203). -/
theorem State.TrackingLaw.settleDisengage {s : State} (h : s.TrackingLaw) :
    s.settleDisengage.TrackingLaw := by
  unfold State.settleDisengage
  split
  · next hd =>
    obtain ⟨hd, hidle⟩ := hd
    obtain ⟨-, -, hlist, hask, hmode⟩ := h
    have hi : ∀ c, (s.chan c).state = .idle := by
      simp only [State.bothIdle, Channel.isIdle, Bool.and_eq_true, decide_eq_true_eq] at hidle
      obtain ⟨h0, h1⟩ := hidle
      rintro (_ | _)
      · exact h0
      · exact h1
    refine State.TrackingLaw.settleDrain (trackingLaw_of_untracked rfl
      (hmode.walk_none (by simp [hd])) rfl (hmode.disengaging hd).1 noTiles_get hi hlist
      fun c => ?_)
    exact (hask c).trans (Channel.wants_eq_false _ _ _ (by simp [hi]))
  · exact h

/-- The RESTART clear leaves nothing tracked (spec/10 R206). -/
theorem State.trackingLaw_clear (s : State) : s.clear.TrackingLaw := by
  refine State.TrackingLaw.startDrain
    (trackingLaw_of_untracked rfl rfl rfl rfl noTiles_get ?_ ?_ ?_) <;> rintro (_ | _)
  all_goals simp [State.chan, Channel.cleared, Channel.reset, Channel.ListLaw]

theorem State.TrackingLaw.settleRestart {s : State} (h : s.TrackingLaw) :
    s.settleRestart.TrackingLaw := by
  unfold State.settleRestart
  split
  · exact s.trackingLaw_clear
  · exact h

/-- What the settling of a tag completes keeps the law. -/
theorem State.TrackingLaw.settleTag {s : State} (h : s.TrackingLaw) : s.settleTag.TrackingLaw := by
  unfold State.settleTag
  split
  · exact h.settleRestart
  · exact h.settleDisengage
  · exact h.settleDrain
  · exact h.settleDrain
  · exact h

end Sys2Proof.Machine
end

section
/-! Every step keeps the tracking law (O6): the commands, block by block. -/

namespace Sys2Proof.Machine

/-! ### The host link and the Dispatch Unit -/

theorem State.TrackingLaw.refuseArrival {s : State} (h : s.TrackingLaw) (r : HostRequest) :
    (s.refuseArrival r).TrackingLaw := (h.respond _ _ _).returnCredits _

theorem State.TrackingLaw.append {s : State} (h : s.TrackingLaw) (r : HostRequest) :
    (s.append r).TrackingLaw := h.congr rfl

/-- A request at its arrival: it is queued, or answered at once (spec/02 R23). -/
theorem State.TrackingLaw.handArrival {s : State} (h : s.TrackingLaw) (r : HostRequest) :
    (s.handArrival r).TrackingLaw := by
  unfold State.handArrival
  split
  · exact h.append r
  · exact h.append r
  · exact h.append r
  · split
    · exact (h.append r).setRet _
    · exact h.append r
  · split
    · exact (h.append r).needRelease.sendExit 1
    · exact (h.post _).refuseArrival r
  · exact h.refuseArrival r

theorem State.TrackingLaw.receive {s : State} (h : s.TrackingLaw) (r : HostRequest) :
    (s.receive r).TrackingLaw := by
  unfold State.receive
  dsimp only
  split
  · exact ((h.setHost _).post _).returnCredits 1
  · exact (h.setHost _).handArrival r

theorem State.TrackingLaw.answerHead {s : State} (h : s.TrackingLaw) (r : HostRequest)
    (st : HostStatus) (data : Option Burst) (n : Option Notice) :
    (s.answerHead r st data n).TrackingLaw := by
  have hpost : (s.postSome n).TrackingLaw := by
    cases n with
    | none => exact h
    | some n => exact h.post n
  exact ((hpost.respond _ _ _).popHead).returnCredits 1

theorem State.TrackingLaw.makeClaim {s : State} (h : s.TrackingLaw) (c : DispatchClaim) :
    (s.makeClaim c).TrackingLaw := by
  cases c <;> exact h.setDispatch _

theorem State.TrackingLaw.settleHead {s : State} (h : s.TrackingLaw) (r : HostRequest)
    (d : Decision) : (s.settleHead r d).TrackingLaw := by
  cases d with
  | answer st data n => exact h.answerHead r st data n
  | forward how => exact h.setHead _
  | wait => exact h.setHead _
  | claim c => exact h.makeClaim c

/-- BYPASS and ENGAGED are the settled modes. -/
theorem Mode.settled_iff (m : Mode) : m.settled = true ↔ m = .bypass ∨ m = .engaged := by
  cases m <;> simp [Mode.settled]

/-- Dispatch runs in BYPASS and ENGAGED while the retention state is ACTIVE (spec/02 R26). -/
theorem dispatchRuns_iff (s : State) :
    s.dispatchRuns = true ↔
      (s.control.mode = .bypass ∨ s.control.mode = .engaged) ∧ s.ret.state = .active := by
  rw [State.dispatchRuns, Bool.and_eq_true, Mode.settled_iff, decide_eq_true_eq]

/-- With dispatch running, a tracked tile tells that the mode is ENGAGED. -/
theorem State.TrackingLaw.engaged_of_tracked {s : State} (h : s.TrackingLaw)
    (hd : s.dispatchRuns = true) {t : Tile} (ht : s.tiles[t] ≠ .untracked) :
    s.control.mode = .engaged := by
  obtain ⟨-, -, -, -, hm⟩ := h
  rcases ((dispatchRuns_iff s).1 hd).1 with hb | he
  · exact absurd ((hm.bypass hb).1 t) ht
  · exact he

/-- What a form of issue presumes of the tile and the channel it changes (spec/02 R35, R41). -/
def IssueForm.Fits (s : State) : IssueForm → Prop
  | .plain => True
  | .writeClaim t => s.tiles[t] = .discarded
  | .reissue c _ => ∃ t : Tile, s.tiles[t] = .filling c
  | .insert c o =>
    (∃ t : Tile, s.tiles[t] = .filling c) ∧ (s.chan c).skipAt o = none ∧ (s.chan c).cursor ≤ o ∧
      (s.chan c).skip.length < 32 ∧ o < s.settings.burstCount

/-- On a FILLING tile, a head is forwarded with what its form presumes (spec/02 R37 to R41). -/
theorem classifyFilling_fits {s : State} {t : Tile} {c : Chan} {o : Nat} {r : HostRequest}
    {how : IssueForm} (ht : s.tiles[t] = .filling c) (ho : o < s.settings.burstCount)
    (h : classifyFilling s c o r = .forward how) : how.Fits s := by
  unfold classifyFilling at h
  dsimp only at h
  split at h
  · cases h
  · split at h
    · cases h; trivial
    · next hcur =>
      split at h
      · cases h; trivial
      · cases h
      · split at h <;> cases h
        exact ⟨t, ht⟩
      · next hskip =>
        split at h
        · next hlen =>
          cases h
          exact ⟨⟨t, ht⟩, hskip, Nat.le_of_not_lt hcur, hlen, ho⟩
        · cases h

/-- A head is forwarded with what its form presumes (spec/02 R31 to R41). -/
theorem classify_fits {s : State} {r : HostRequest} {how : IssueForm}
    (h : classify s r = .forward how) : how.Fits s := by
  have hvoid (t : Tile) : voidAnswer s.settings t r ≠ .forward how := by
    unfold voidAnswer
    split <;> simp
  unfold classify at h
  dsimp only at h
  split at h
  · cases h; trivial
  · split at h
    · cases h
    · unfold classifyTile at h
      split at h
      · cases h; trivial
      · exact absurd h (hvoid _)
      · exact absurd h (hvoid _)
      · cases h
      · cases h
      · cases h; trivial
      · cases h; trivial
      · next ht _ => cases h; exact ht
      · cases h
      · next ht => exact classifyFilling_fits ht (offsetOfAddr_lt _ _) h

/-- The effect of an issue on a tile or a skip list keeps the law (spec/02 R44). -/
theorem State.TrackingLaw.issueEffect {s : State} (h : s.TrackingLaw) (hd : s.dispatchRuns = true)
    (tag : Tag) {how : IssueForm} (hf : how.Fits s) : (s.issueEffect tag how).TrackingLaw := by
  obtain ⟨-, hfill, -⟩ := id h
  cases how with
  | plain => exact h
  | writeClaim t =>
    have ht : s.tiles[t] = .discarded := hf
    exact h.setTile_plain (h.engaged_of_tracked hd (by rw [ht]; simp)) (by rw [ht]; rfl) rfl
  | reissue c o =>
    obtain ⟨t, ht⟩ := hf
    exact h.setChan_filling (r := { s.chan c with skip := reissueSkip o tag _ })
      ((hfill c t).2 ht) rfl (fun hf _ => hf) fun hk => hk.thin rfl (by simp)
  | insert c o =>
    obtain ⟨⟨t, ht⟩, hnone, hcur, hlen, ho⟩ := hf
    exact h.setChan_filling
      (r := { s.chan c with skip := insertSkip { offset := o, status := .issued tag } _ })
      ((hfill c t).2 ht) rfl (fun hf _ => hf) fun hk => hk.insert _ hnone hlen hcur ho

/-- An issue of the head writes the Tag Pool and the Memory Link before its effect. -/
theorem State.passHead_issue_eq (s : State) (t : Tag) (o : Origin) (a : Addr) (b : ReqBody) :
    ∃ tags l, s.passHead.issue t o a b = { s with tags := tags, link := l } := by
  unfold State.passHead
  split <;> exact ⟨_, _, rfl⟩

/-- The head's issue keeps the law (spec/02 R44). -/
theorem State.TrackingLaw.issueHead {s : State} (h : s.TrackingLaw) (hd : s.dispatchRuns = true)
    (r : HostRequest) (tag : Tag) {how : IssueForm} (hf : how.Fits s) :
    (s.issueHead r tag how).TrackingLaw := by
  obtain ⟨tags, l, he⟩ := s.passHead_issue_eq tag
    (.host r.body.kind (burstAddr r.addr) r.tag how.link) (burstAddr r.addr)
    (how.body s.settings r.body)
  have hissued : ({ s with tags := tags, link := l } : State).TrackingLaw := h.congr rfl
  have hfits : how.Fits { s with tags := tags, link := l } := by cases how <;> exact hf
  rw [State.issueHead, he]
  exact ((hissued.issueEffect hd tag hfits).popHead).returnCredits 1

/-- What the head does with its grant keeps the law (spec/02 R29). -/
theorem State.TrackingLaw.grantHead {s : State} (h : s.TrackingLaw) (hd : s.dispatchRuns = true)
    (r : HostRequest) (t : Tag) : (s.grantHead r t).TrackingLaw := by
  unfold State.grantHead
  split
  · next how hc => exact h.issueHead hd r t (classify_fits hc)
  · exact h.answerHead r _ _ _
  · exact h.setHead _
  · exact h.makeClaim _

/-- A queue-at-head that arrives keeps the law (spec/01 R9). -/
theorem State.TrackingLaw.takeQueueAtHead {s : State} (h : s.TrackingLaw)
    (hd : s.dispatchRuns = true) (t : Tile) : (s.takeQueueAtHead t).TrackingLaw := by
  unfold State.takeQueueAtHead
  split
  · next ht =>
    have hm := h.engaged_of_tracked hd (t := t) (by rw [ht]; simp)
    exact (h.enqueue hm (by rw [ht]; rfl) (.refl (t :: s.fillQueue))).congr rfl
  · exact h.dropHead

/-- A command answers one next state, and it is the state its meaning writes. -/
theorem next_inj {s t : State} {P : State → Prop} (h : P s)
    (he : (Host.Outcome.next s : Host.Outcome State Fault Refusal) = .next t) : P t := by
  injection he with he
  exact he ▸ h

theorem execRequest_keeps_tracking {s t : State} (h : s.TrackingLaw) (r : HostRequest)
    (he : execRequest r s = .next t) : t.TrackingLaw := by
  refine next_inj ?_ he
  split
  · split
    · exact h.post _
    · exact h.receive r
  · exact h

theorem execHostLinkUp_keeps_tracking {s t : State} (h : s.TrackingLaw)
    (he : execHostLinkUp s = .next t) : t.TrackingLaw := by
  refine next_inj ?_ he
  split
  · exact h
  · exact (h.setHost _).returnCredits _

theorem execHeadClassification_keeps_tracking {s t : State} (h : s.TrackingLaw)
    (he : execHeadClassification s = .next t) : t.TrackingLaw := by
  refine next_inj ?_ he
  split
  · exact h
  · split
    · exact h.settleHead _ _
    · exact h

theorem execFillStart_keeps_tracking {s t : State} (h : s.TrackingLaw)
    (he : execFillStart s = .next t) : t.TrackingLaw := by
  refine next_inj ?_ he
  split
  · next k c _ =>
    split
    · next hd =>
      split
      · next hk =>
        have hm := h.engaged_of_tracked hd (t := k) (by rw [hk]; simp)
        have hstart (d : Chan) (hi : (s.chan d).isIdle = true) :
            (s.startFill k d).dropHead.TrackingLaw :=
          (h.startFill hm (by rw [hk]; rfl) (by simpa [Channel.isIdle] using hi)).dropHead
        split
        · next hi => exact hstart c hi
        · split
          · next hi => exact hstart (otherChan c) hi
          · exact h.makeClaim _
      · exact h.dropHead
    · exact h
  · exact h
  · exact h
  · exact h

theorem execQueueAtHead_keeps_tracking {s t : State} (h : s.TrackingLaw)
    (he : execQueueAtHead s = .next t) : t.TrackingLaw := by
  refine next_inj ?_ he
  split
  · split
    · next hd => exact h.takeQueueAtHead hd _
    · exact h
  · exact h
  · exact h
  · exact h

theorem execPromotion_keeps_tracking {s t : State} (h : s.TrackingLaw)
    (he : execPromotion s = .next t) : t.TrackingLaw := by
  refine next_inj ?_ he
  split
  · next k _ =>
    split
    · split
      · next hk =>
        have hin : k ∈ s.fillQueue := by
          obtain ⟨⟨-, hq⟩, -⟩ := id h
          exact (hq k).2 hk
        exact (h.setHead .wait).reorder (List.perm_cons_erase hin).symm
      · exact h.dropHead
    · exact h
  · exact h
  · exact h
  · exact h

theorem execHeadGrant_keeps_tracking {s t : State} (h : s.TrackingLaw)
    (he : execHeadGrant s = .next t) : t.TrackingLaw := by
  refine next_inj ?_ he
  split
  · split
    · next hd => exact h.grantHead hd.1 _ _
    · exact h
  · exact h
  · exact h
  · exact h

/-! ### The Fill Engine -/

/-- A fill write sent before its channel takes a record writes nothing the law reads. -/
theorem State.tracked_issueFill_setChan (s : State) (c : Chan) (t : Tile) (o : Nat) (tag : Tag)
    (r : Channel) : ((s.issueFill c t o tag).setChan c r).tracked = (s.setChan c r).tracked := by
  cases c <;> rfl

/-- The record of a channel whose cursor burst is issued under a tag (spec/03 R58). -/
def Channel.cursorIssued (r : Channel) (tag : Tag) : Channel :=
  { r with
    cursor := r.cursor + 1,
    inFlight := r.inFlight ++ [{ offset := r.cursor, attempt := .first, status := .issued tag }] }

/-- The new entry stands at the end of the in-flight list (spec/03 R54). -/
theorem Channel.FlightsOk.cursorIssued {r : Channel} (h : r.FlightsOk) {n : Nat}
    (hr : r.cursorReady n = true) (tag : Tag) : (r.cursorIssued tag).FlightsOk := by
  obtain ⟨h1, h2, h3⟩ := h
  have hlen : r.inFlight.length < 4 := by
    simp only [Channel.cursorReady, Bool.and_eq_true, decide_eq_true_eq] at hr
    exact hr.2
  refine ⟨?_, ?_, by simpa [Channel.cursorIssued] using hlen⟩
  · rw [Channel.cursorIssued, List.pairwise_append]
    refine ⟨h1, by simp, ?_⟩
    simpa using h2
  · simp only [Channel.cursorIssued, List.mem_append, List.mem_singleton]
    rintro e (he | rfl)
    · exact (h2 e he).trans (Nat.lt_succ_self _)
    · exact Nat.lt_succ_self _

/-- The cursor advances over a burst that no skip entry records (spec/03 R50, R58). -/
theorem Channel.SkipsOk.cursorIssued {r : Channel} {n : Nat} (h : r.SkipsOk n)
    (hr : r.cursorReady n = true) (tag : Tag) : (r.cursorIssued tag).SkipsOk n := by
  simp only [Channel.cursorReady, Channel.skipAt, Bool.and_eq_true, decide_eq_true_eq,
    Option.isNone_iff_eq_none, List.find?_eq_none] at hr
  obtain ⟨⟨hcur, hnone⟩, -⟩ := hr
  obtain ⟨-, h2, h3, h4⟩ := h
  refine ⟨hcur, h2, h3, fun e he => ?_⟩
  have hne := hnone e he
  obtain ⟨hlo, hhi⟩ := h4 e he
  exact ⟨by show r.cursor + 1 ≤ e.offset; omega, hhi⟩

/-- A channel is FILLING on some tile exactly where it says so. -/
theorem Channel.isFilling_iff (r : Channel) : r.isFilling = true ↔ ∃ t, r.state = .filling t := by
  unfold Channel.isFilling
  cases r.state <;> simp

/-- The record of a channel that steps over the entry under its cursor (spec/03 R56). -/
def Channel.stepped (r : Channel) : Channel :=
  { r with cursor := r.cursor + 1, skip := r.skip.filter fun e => e.offset ≠ r.cursor }

/-- The in-flight list lies below the advanced cursor. -/
theorem Channel.FlightsOk.stepped {r : Channel} (h : r.FlightsOk) : r.stepped.FlightsOk := by
  obtain ⟨h1, h2, h3⟩ := h
  exact ⟨h1, fun e he => (h2 e he).trans (Nat.lt_succ_self _), h3⟩

/-- The skip list lies at or ahead of the advanced cursor (spec/03 R50, R56). -/
theorem Channel.SkipsOk.stepped {r : Channel} {n : Nat} (h : r.SkipsOk n) {e : SkipEntry}
    (he : r.skipAt r.cursor = some e) : r.stepped.SkipsOk n := by
  obtain ⟨hin, hcur⟩ := skipAt_some he
  obtain ⟨-, h2, h3, h4⟩ := h
  refine ⟨?_, h2.filter _, (List.length_filter_le _ _).trans h3, fun x hx => ?_⟩
  · have := (h4 e hin).2
    show r.cursor + 1 ≤ n
    omega
  · obtain ⟨hx, hne⟩ := List.mem_filter.1 hx
    simp only [decide_eq_true_eq] at hne
    obtain ⟨hlo, hhi⟩ := h4 x hx
    exact ⟨by show r.cursor + 1 ≤ x.offset; omega, hhi⟩

/-- What a channel does with its grant keeps the law (spec/03 R58, R64). -/
theorem State.TrackingLaw.grantChan {s : State} (h : s.TrackingLaw) (c : Chan) (tag : Tag) :
    (s.grantChan c tag).TrackingLaw := by
  have hself : (s.setChan c (s.chan c)).TrackingLaw := by
    obtain ⟨-, -, hl, -⟩ := id h
    exact h.setChan_of_state c (hl c) rfl
  unfold State.grantChan
  split
  · next t ht =>
    split
    · exact hself
    · split
      · next e _ =>
        refine (h.setChan_filling
          (r := { s.chan c with inFlight := setFlight e.offset .second (.issued tag) _ })
          ht rfl (fun hf _ => hf.thin rfl ?_) id).congr (s.tracked_issueFill_setChan c t _ tag _)
        rw [setFlight_offsets]
      · split
        · next hr =>
          exact (h.setChan_filling (r := (s.chan c).cursorIssued tag) ht rfl
            (fun hf _ => hf.cursorIssued hr tag) fun hk => hk.cursorIssued hr tag).congr
              (s.tracked_issueFill_setChan c t _ tag _)
        · exact hself
  · exact hself
  · exact hself

theorem execChannelGrant_keeps_tracking {s t : State} (h : s.TrackingLaw) (c : Chan)
    (he : execChannelGrant c s = .next t) : t.TrackingLaw := by
  refine next_inj ?_ he
  split
  · split
    · exact h.grantChan c _
    · exact h
  · exact h

/-- A take is a QUEUED tile leaving the Fill Queue and starting on the channel (spec/01 R11). -/
theorem State.take_eq (s : State) (t : Tile) (c : Chan) (rest : List Tile) :
    ({ s.startFill t c with fillQueue := rest } : State) =
      ({ s.setTile t .void with fillQueue := rest } : State).startFill t c := by
  have hset : (s.tiles.set t .void).set t (.filling c) = s.tiles.set t (.filling c) :=
    Vector.set_set ..
  cases c <;> simp only [State.startFill, State.setTile, State.setChan, State.chan, hset]

/-- A channel can take where it is IDLE and not paused, outside RESTARTING (spec/01 R11, spec/03
R49, R78). -/
theorem canTake_iff (s : State) (c : Chan) :
    s.canTake c = true ↔
      (s.chan c).state = .idle ∧ (s.chan c).paused = false ∧ s.control.mode ≠ .restarting := by
  simp [State.canTake, Channel.isIdle, and_assoc]

theorem execTake_keeps_tracking {s t : State} (h : s.TrackingLaw) (c : Chan)
    (he : execTake c s = .next t) : t.TrackingLaw := by
  refine next_inj ?_ he
  split
  · exact h
  · next k rest hq =>
    split
    · next hc =>
      obtain ⟨hmay, hk⟩ := hc
      have hcan : s.canTake c = true := by
        cases c
        · exact hmay
        · simp only [State.mayTake, Bool.and_eq_true] at hmay
          exact hmay.1
      obtain ⟨hidle, -, hmode⟩ := (canTake_iff s c).1 hcan
      have hm : s.control.mode = .engaged := (h.mode_of_filled (.inl hk)).resolve_right hmode
      have hvoid := h.dequeue hk (x := .void) rfl
      rw [hq, List.erase_cons_head] at hvoid
      rw [State.take_eq]
      refine hvoid.startFill hm ?_ hidle
      show (s.setTile k .void).tiles[k].plain = true
      rw [State.setTile_get, if_pos rfl]
      rfl
    · exact h

theorem execCursorStep_keeps_tracking {s t : State} (h : s.TrackingLaw) (c : Chan)
    (he : execCursorStep c s = .next t) : t.TrackingLaw := by
  refine next_inj ?_ he
  split
  · next e hskip =>
    split
    · next hc =>
      obtain ⟨k, hk⟩ := (s.chan c).isFilling_iff.1 hc.1
      exact (h.setChan_filling (r := (s.chan c).stepped) hk rfl (fun hf _ => hf.stepped)
        fun hk => hk.stepped hskip).tryComplete c
    · exact h
  · exact h

end Sys2Proof.Machine
end

section
/-! Every step keeps the tracking law (O6): the links, the Retention Controller, the management port
and the long commands, and the settlement. -/

namespace Sys2Proof.Machine

/-! ### The memory link and the Retention Controller -/

/-- A response that is taken keeps the law (spec/06 R136 to R141). -/
theorem State.TrackingLaw.takeResponse {s : State} (h : s.TrackingLaw) (t : Tag) (st : MemStatus)
    (data : Burst) : (s.takeResponse t st data).TrackingLaw := by
  unfold State.takeResponse
  split
  · exact h.post _
  · exact (h.setTag t .free).post _
  · exact (((h.setTag t .free).respond _ _ _).handSkip _ t _).settleTag
  · exact ((h.setTag t .free).handFill _ _ t _).settleTag

theorem execResponse_keeps_tracking {s t : State} (h : s.TrackingLaw) (w : Fin 64) (st : MemStatus)
    (data : Burst) (he : execResponse w st data s = .next t) : t.TrackingLaw := by
  refine next_inj ?_ he
  split
  · split
    · exact h.takeResponse _ st data
    · exact h.post _
  · exact h

theorem execResponseTimeout_keeps_tracking {s t : State} (h : s.TrackingLaw) (tag : Tag)
    (he : execResponseTimeout tag s = .next t) : t.TrackingLaw := by
  refine next_inj ?_ he
  split
  · split
    · exact (((((h.reach _).setTag tag _).post _).respond _ _ _).handSkip _ tag false).settleTag
    · exact h
  · exact h
  · exact h
  · exact h

theorem execFillWriteTimeout_keeps_tracking {s t : State} (h : s.TrackingLaw) (tag : Tag)
    (he : execFillWriteTimeout tag s = .next t) : t.TrackingLaw := by
  refine next_inj ?_ he
  split
  · split
    · exact ((((h.reach _).setTag tag _).post _).handFill _ _ tag false).settleTag
    · exact h
  · exact h
  · exact h
  · exact h

theorem execMemoryLinkUp_keeps_tracking {s t : State} (h : s.TrackingLaw)
    (he : execMemoryLinkUp s = .next t) : t.TrackingLaw := by
  refine next_inj ?_ he
  split
  · exact h
  · exact h.setLink _

theorem execCredit_keeps_tracking {s t : State} (h : s.TrackingLaw) (n : Fin 256)
    (he : execCredit n s = .next t) : t.TrackingLaw := by
  refine next_inj ?_ he
  split
  · exact h.setLink _
  · exact h

/-- A done message keeps the law where its match does (spec/04 R86, R101). -/
theorem State.TrackingLaw.takeDone {s : State} (h : s.TrackingLaw) (wanted : RetState)
    {matched : State → State} (hm : ∀ u : State, u.TrackingLaw → (matched u).TrackingLaw) :
    (s.takeDone wanted matched).TrackingLaw := by
  unfold State.takeDone
  split
  · dsimp only
    split
    · exact hm _ h.settleDrain
    · exact h.settleDrain.post _
  · exact h

theorem State.TrackingLaw.entered {s : State} (h : s.TrackingLaw) : s.entered.TrackingLaw := by
  unfold State.entered
  dsimp only
  split
  · exact ((h.setRet _).post _).setRet _
  · exact ((h.setRet _).post _).needRelease.sendExit 1

theorem State.TrackingLaw.exited {s : State} (h : s.TrackingLaw) : s.exited.TrackingLaw :=
  (((h.setRet _).post _).setPaused false).startDrain

theorem State.TrackingLaw.reachDirective {s : State} (h : s.TrackingLaw) :
    s.reachDirective.TrackingLaw := by
  unfold State.reachDirective
  split
  · exact h
  · exact h.reach _

theorem execEntryTimeout_keeps_tracking {s t : State} (h : s.TrackingLaw)
    (he : execEntryTimeout s = .next t) : t.TrackingLaw := by
  refine next_inj ?_ he
  split
  · exact ((h.reachDirective.post _).setRet _).needRelease.sendExit 1
  · exact h

theorem execExitTimeout_keeps_tracking {s t : State} (h : s.TrackingLaw)
    (he : execExitTimeout s = .next t) : t.TrackingLaw := by
  refine next_inj ?_ he
  split
  · exact (h.reachDirective.post _).sendExit 2
  · exact h

theorem execHalt_keeps_tracking {s t : State} (h : s.TrackingLaw)
    (he : execHalt s = .next t) : t.TrackingLaw := by
  refine next_inj ?_ he
  split
  · exact (((h.reachDirective.post _).post _).setRet _).flush _
  · exact h

theorem execSlpReqRise_keeps_tracking {s t : State} (h : s.TrackingLaw)
    (he : execSlpReqRise s = .next t) : t.TrackingLaw := by
  refine next_inj ?_ he
  split
  · exact h
  · exact (h.setPins _).startDrain

theorem State.TrackingLaw.slpFell {s : State} (h : s.TrackingLaw) : s.slpFell.TrackingLaw := by
  have hfell : ({ s with pins := { s.pins with slpReqHigh := false },
                         ret := { s.ret with releaseNeeded := false } } : State).TrackingLaw :=
    h.congr rfl
  unfold State.slpFell
  dsimp only
  split
  · exact (hfell.setRet _).setPaused false
  · exact hfell.sendExit 1
  · exact hfell
  · exact hfell
  · exact hfell
  · exact hfell

theorem execSlpReqFall_keeps_tracking {s t : State} (h : s.TrackingLaw)
    (he : execSlpReqFall s = .next t) : t.TrackingLaw := by
  refine next_inj ?_ he
  split
  · exact h.slpFell
  · exact h

/-! ### Hard reset -/

/-- Hard reset leaves nothing tracked (spec/12 R213). -/
theorem State.trackingLaw_hardReset (s : State) : s.hardReset.TrackingLaw := by
  refine trackingLaw_of_untracked rfl rfl rfl rfl noTiles_get ?_ ?_ ?_ <;> rintro (_ | _)
  all_goals simp [State.chan, State.hardReset, State.reset, Channel.reset, Channel.ListLaw]

theorem execHardResetEnd_keeps_tracking {s t : State} (h : s.TrackingLaw)
    (he : execHardResetEnd s = .next t) : t.TrackingLaw := by
  refine next_inj ?_ he
  split
  · exact (h.setPins _).startDrain
  · exact h

/-! ### The management port -/

/-- A command that is taken keeps the law where its event does (spec/09 R176). -/
theorem State.TrackingLaw.takeCommand {s : State} (h : s.TrackingLaw) (t : Nat) {after : State}
    (ha : after.TrackingLaw) (reply : List Byte) : (s.takeCommand t after reply).TrackingLaw := by
  unfold State.takeCommand
  split
  · exact ha.setFrame _
  · exact h

theorem State.TrackingLaw.raiseSelect {s : State} (h : s.TrackingLaw) :
    s.raiseSelect.TrackingLaw := by
  unfold State.raiseSelect
  split
  · exact (h.setPins _).setFrame none
  · exact h

theorem execFrameBegin_keeps_tracking {s t : State} (h : s.TrackingLaw)
    (he : execFrameBegin s = .next t) : t.TrackingLaw := by
  refine next_inj ?_ he
  split
  · exact h
  · dsimp only
    split
    · exact h.setPins _
    · exact (h.setPins _).setFrame _

theorem execUnknownCommand_keeps_tracking {s t : State} (h : s.TrackingLaw) (code : Byte)
    (he : execUnknownCommand code s = .next t) : t.TrackingLaw := by
  refine next_inj ?_ he
  split
  · exact h.setFrame _
  · exact h

/-- A SET of a setting that may change outside BYPASS leaves CAPACITY (spec/09 R190). -/
theorem Settings.put_capacity {g g' : Settings} {id : SettingId} {v : BitVec 64}
    (hid : id.bypassOnly = false) (h : g.put id v = some g') : g'.capacity = g.capacity := by
  cases id with
  | capacity | granule | fillWord => cases hid
  | voidPolicy | wakeOnAccess | fillShare | respTimeout | directiveTimeout | floorLanes | floorBands
    | noticeMask =>
    simp only [Settings.put] at h
    split at h <;> cases h <;> rfl

/-- Only CAPACITY changes the burst count, and it is set in BYPASS (spec/01 R3, spec/09 R190). -/
theorem State.trySet_burstCount (s : State) (ident : Byte) (value : BitVec 64) :
    s.control.mode = .bypass ∨
      (s.trySet ident value).2.burstCount = s.settings.burstCount := by
  unfold State.trySet
  split
  · exact .inr rfl
  · next id _ =>
    split
    · exact .inr rfl
    · next hid =>
      rw [not_and, not_not] at hid
      split
      · exact .inr rfl
      · next g hg =>
        cases hb : id.bypassOnly
        · right
          simp only [Settings.burstCount, Settings.capacityBytes, Settings.put_capacity hb hg]
        · exact .inl (hid hb)

/-- The settings may change where the burst count does not, or where nothing is FILLING. -/
theorem State.TrackingLaw.setSettings {s : State} (h : s.TrackingLaw) {g : Settings}
    (hg : s.control.mode = .bypass ∨ g.burstCount = s.settings.burstCount) :
    ({ s with settings := g } : State).TrackingLaw := by
  obtain ⟨hqueue, hfill, hlist, hask, hmode⟩ := h
  rcases hg with hm | hg
  · have hidle := ((State.quiet_iff s).1 (hmode.bypass hm).2).1
    have hnot (c : Chan) (t : Tile) : (s.chan c).state ≠ .filling t := by simp [hidle]
    refine ⟨hqueue, hfill, fun c => ?_, fun c => ?_, hmode⟩
    · exact Channel.listLaw_of_not_filling (hnot c) (hlist c)
    · exact (hask c).trans ((Channel.wants_eq_false _ _ _ (hnot c)).trans
        (Channel.wants_eq_false _ _ _ (hnot c)).symm)
  · refine ⟨hqueue, hfill, fun c => ?_, fun c => ?_, hmode⟩
    · show (s.chan c).ListLaw g.burstCount
      rw [hg]
      exact hlist c
    · show (s.chan c).asks = (s.chan c).wants s.control.mode g.burstCount
      rw [hg]
      exact hask c

theorem execSet_keeps_tracking {s t : State} (h : s.TrackingLaw) (ident : Byte) (value : BitVec 64)
    (he : execSet ident value s = .next t) : t.TrackingLaw :=
  next_inj (h.takeCommand _ (h.setSettings (s.trySet_burstCount ident value)) _) he

theorem execTakeNotice_keeps_tracking {s t : State} (h : s.TrackingLaw)
    (he : execTakeNotice s = .next t) : t.TrackingLaw :=
  by
  have hq : ({ s with notices := s.notices.taken } : State).TrackingLaw := h.congr rfl
  exact next_inj (h.takeCommand _ hq _) he

/-! ### Long commands -/

/-- A long command keeps the law where its acceptance does (spec/09 R175, R185). -/
theorem State.TrackingLaw.takeLong {s : State} (h : s.TrackingLaw) (c : LongCmd) (t : Nat)
    {why : Option Reason} {accepted : State} (ha : why = none → accepted.TrackingLaw) :
    (s.takeLong c t why accepted).TrackingLaw := by
  unfold State.takeLong
  split
  · split
    · exact h.setFrame _
    · refine h.takeCommand t ?_ _
      split
      · exact h.congr rfl
      · exact ha rfl
  · exact h

/-- Checks given in order all hold where none fails. -/
theorem firstFailure_none {l : List (Bool × Reason)} (h : firstFailure l = none) :
    ∀ x ∈ l, x.1 = true := by
  induction l with
  | nil => simp
  | cons x xs ih =>
    obtain ⟨b, why⟩ := x
    unfold firstFailure at h
    cases b
    · cases h
    · simpa using ih h

/-- A command judged fit for a mode, by a check for that mode. -/
theorem mode_of_firstFailure {s : State} {l : List (Bool × Reason)} (m : Mode) (why : Reason)
    (hl : (s.modeIs m, why) ∈ l) (h : firstFailure l = none) : s.control.mode = m := by
  simpa [State.modeIs] using firstFailure_none h _ hl

/-- The acceptance of ENGAGE keeps the law: no tile is tracked, and the walk is at tile 0
(spec/10 R199). -/
theorem State.TrackingLaw.acceptEngage {s : State} (h : s.TrackingLaw)
    (hm : s.control.mode = .bypass) (option : Byte) : (s.acceptEngage option).TrackingLaw := by
  unfold State.acceptEngage
  split
  · exact h
  · next o _ =>
    obtain ⟨hqueue, hfill, hlist, hask, hmode⟩ := h
    obtain ⟨ht, hq⟩ := hmode.bypass hm
    refine ⟨hqueue, hfill, hlist, fun c => ?_, ?_⟩
    · exact (hask c).trans (Channel.wants_mode _ _ (by simp [hm]))
    · refine modeLaw_of_engaging rfl rfl rfl hq fun t => ⟨?_, fun hlt => ?_⟩
      · exact iff_of_true (ht t) (Fin.zero_le t)
      · exact absurd hlt (Fin.not_lt_zero t)

/-- The record of a tile after a claim of the ENGAGE walk. -/
theorem State.claimEngage_get (s : State) (w : EngageWalk) (k : Tile) :
    (s.claimEngage w).tiles[k] = if k = w.pos then w.option.tileState else s.tiles[k] :=
  s.setTile_get w.pos k _

/-- The ENGAGE walk leaves a tile LIVE or VOID (spec/01 R16). -/
theorem EngageOption.tileState_plain (o : EngageOption) : o.tileState.plain = true := by
  cases o <;> rfl

/-- A claim of the ENGAGE walk makes no tile QUEUED or FILLING, and no channel is at work. -/
theorem State.TrackingLaw.claimEngage {s : State} (h : s.TrackingLaw) {w : EngageWalk}
    (hw : s.control.walk = some w) :
    (s.claimEngage w).FillQueueLaw ∧ (s.claimEngage w).FillingLaw := by
  have hplain := w.option.tileState_plain
  rw [TileState.plain_iff] at hplain
  obtain ⟨-, hnq, hnf⟩ := hplain
  obtain ⟨⟨-, hqueue⟩, hfill, -, -, hmode⟩ := h
  obtain ⟨hi, hq⟩ := (State.quiet_iff s).1 (hmode.engaging hw).1
  refine ⟨⟨by simp [State.claimEngage, hq], fun k => ?_⟩, fun c k => ?_⟩
  · rw [State.claimEngage_get]
    show k ∈ s.fillQueue ↔ _
    split
    · simp [hq, hnq]
    · exact hqueue k
  · rw [State.claimEngage_get]
    show (s.chan c).state = _ ↔ _
    split
    · simp [hi, hnf]
    · exact hfill c k

/-- A walk claim below tile 127 keeps the law: the walk goes on (spec/10 R200). -/
theorem State.TrackingLaw.claimEngage_next {s : State} (h : s.TrackingLaw) {w : EngageWalk}
    (hw : s.control.walk = some w) (hpos : w.pos.val ≠ 127) :
    ({ s.claimEngage w with
        control := { s.control with walk := some { w with pos := w.pos + 1 } } } :
      State).TrackingLaw := by
  obtain ⟨hqueue, hfill⟩ := h.claimEngage hw
  obtain ⟨-, -, hlist, hask, hmode⟩ := h
  have hm := hmode.engaging_of_walk hw
  obtain ⟨hq, ht⟩ := hmode.engaging hw
  have hsucc : (w.pos + 1).val = w.pos.val + 1 := Fin.val_add_one_of_lt' (by omega)
  have hplain := w.option.tileState_plain
  rw [TileState.plain_iff] at hplain
  refine ⟨hqueue, hfill, hlist, hask,
    modeLaw_of_engaging hm rfl (hmode.rangeWalk_none (by simp [hm])) hq fun k => ?_⟩
  obtain ⟨hu, hb⟩ := ht k
  show ((s.claimEngage w).tiles[k] = _ ↔ w.pos + 1 ≤ k) ∧
    (k < w.pos + 1 → (s.claimEngage w).tiles[k] = _)
  rw [State.claimEngage_get, Fin.le_def, Fin.lt_def, hsucc]
  rw [Fin.le_def] at hu
  rw [Fin.lt_def] at hb
  split
  · next hk => subst hk; simp [hplain.1]
  · next hk =>
    rw [Fin.ext_iff] at hk
    exact ⟨hu.trans (by omega), fun hlt => hb (by omega)⟩

/-- The claim on tile 127 keeps the law: every tile is tracked, and the mode is ENGAGED
(spec/10 R201). -/
theorem State.TrackingLaw.claimEngage_end {s : State} (h : s.TrackingLaw) {w : EngageWalk}
    (hw : s.control.walk = some w) (hpos : w.pos.val = 127) :
    (s.claimEngage w).endEngage.TrackingLaw := by
  obtain ⟨hqueue, hfill⟩ := h.claimEngage hw
  obtain ⟨-, -, hlist, hask, hmode⟩ := h
  have hm := hmode.engaging_of_walk hw
  obtain ⟨-, ht⟩ := hmode.engaging hw
  have hplain := w.option.tileState_plain
  rw [TileState.plain_iff] at hplain
  refine State.TrackingLaw.settleDrain ⟨hqueue, hfill, hlist, fun c => ?_,
    modeLaw_of_engaged rfl rfl fun k => ?_⟩
  · exact (hask c).trans (Channel.wants_mode _ _ (by simp [hm]))
  · show (s.claimEngage w).tiles[k] ≠ _
    rw [State.claimEngage_get]
    split
    · exact hplain.1
    · next hk =>
      obtain ⟨hu, -⟩ := ht k
      rw [Ne, hu, Fin.le_def]
      rw [Fin.ext_iff] at hk
      omega

theorem execEngageWalkClaim_keeps_tracking {s t : State} (h : s.TrackingLaw)
    (he : execEngageWalkClaim s = .next t) : t.TrackingLaw := by
  refine next_inj ?_ he
  split
  · exact h
  · next w hw =>
    split
    · split
      · next hpos => exact h.claimEngage_end hw hpos
      · next hpos => exact h.claimEngage_next hw hpos
    · exact h

/-- A channel released at DISENGAGE keeps its lists in order and is FILLING no more
(spec/03 R75). -/
theorem Channel.ListLaw.released {n : Nat} {r : Channel} (h : r.ListLaw n) :
    r.released.ListLaw n ∧ ∀ t, r.released.state ≠ .filling t := by
  unfold Channel.released
  split
  · exact ⟨h.flights.cancelled n, r.cancelled_not_filling⟩
  · next hr =>
    rw [Channel.isFilling_iff] at hr
    exact ⟨h, fun t ht => hr ⟨t, ht⟩⟩

/-- A tile released at DISENGAGE is neither QUEUED nor FILLING, and tracked as before
(spec/01 R17). -/
theorem TileState.released_plain {x : TileState} (h : x ≠ .untracked) :
    x.released.plain = true := by
  cases x with
  | untracked => exact absurd rfl h
  | void | queued | filling _ | live | discarded | failed => rfl

/-- What the acceptance of DISENGAGE leaves before its end is looked for (spec/10 R202). -/
theorem State.acceptDisengage_parts (s : State) :
    ∃ u : State, s.acceptDisengage = u.settleDisengage ∧ u.fillQueue = [] ∧
      (∀ t : Tile, u.tiles[t] = (s.tiles[t]).released) ∧
      (∀ c, u.chan c = (s.chan c).released.examined .disengaging s.settings.burstCount) ∧
      u.control = { s.control with mode := .disengaging } ∧ u.port.rangeWalk = none ∧
      u.settings = s.settings := by
  refine ⟨_, rfl, rfl, fun t => ?_, fun c => ?_, ?_, rfl, ?_⟩
  · simp
  · cases c <;> simp [State.begin]
  · simp
  · simp [State.begin]

/-- The acceptance of DISENGAGE keeps the law (spec/10 R202). -/
theorem State.TrackingLaw.acceptDisengage {s : State} (h : s.TrackingLaw)
    (hm : s.control.mode = .engaged) : s.acceptDisengage.TrackingLaw := by
  obtain ⟨u, he, hq, htiles, hchan, hc, hr, hg⟩ := s.acceptDisengage_parts
  obtain ⟨-, -, hlist, -, hmode⟩ := h
  have hplain (t : Tile) : u.tiles[t] ≠ .untracked ∧ u.tiles[t] ≠ .queued ∧
      ∀ c, u.tiles[t] ≠ .filling c := by
    rw [← TileState.plain_iff, htiles]
    exact TileState.released_plain (hmode.tracked hm t)
  rw [he]
  refine State.TrackingLaw.settleDisengage ⟨⟨by simp [hq], fun t => ?_⟩, fun c t => ?_, fun c => ?_,
    fun c => ?_, modeLaw_of_disengaging (by rw [hc]) ?_ hr hq hplain⟩
  · exact iff_of_false (by simp [hq]) (hplain t).2.1
  · refine iff_of_false ?_ ((hplain t).2.2 c)
    rw [hchan]
    exact (hlist c).released.2 t
  · rw [hchan, hg]
    exact (hlist c).released.1
  · rw [hchan, hc, hg]
    rfl
  · rw [hc]
    exact hmode.walk_none (by simp [hm])

/-- The acceptance of RESTART stops the channels and keeps the law (spec/10 R204). -/
theorem State.TrackingLaw.acceptRestart {s : State} (h : s.TrackingLaw) :
    s.acceptRestart.TrackingLaw := by
  obtain ⟨hqueue, hfill, hlist, -, hmode⟩ := h
  have hbegun (u : State)
      (hu : u.tracked = State.tracked
        { s.begin .restart with control := { mode := .restarting, walk := none } }) :
      u.examineChans.TrackingLaw := by
    simp only [State.tracked, Prod.mk.injEq] at hu
    obtain ⟨ht, hq, h0, h1, hc, hg, hr⟩ := hu
    have hch (c : Chan) : u.examineChans.chan c =
        (s.chan c).examined .restarting s.settings.burstCount := by
      rw [State.examineChans_chan, hc, hg, State.chan_congr h0 h1]
      cases c <;> rfl
    refine ⟨?_, ?_, fun c => ?_, fun c => ?_, ?_⟩
    · simpa only [FillQueueLaw, State.examineChans_tiles, State.examineChans_fillQueue, ht, hq,
        State.begin] using hqueue
    · intro c t
      rw [hch, State.examineChans_tiles, ht]
      exact hfill c t
    · rw [hch, State.examineChans_settings, hg]
      exact hlist c
    · rw [hch, State.examineChans_settings, State.examineChans_control, hg, hc]
      rfl
    · exact modeLaw_of_restarting (by simp [hc]) (by simp [hc])
        (by rw [State.examineChans_port, hr]; rfl)
  exact (hbegun _ (State.tracked_flush _ _)).settleRestart

/-- The acceptance of a range command keeps the law: its walk stands in ENGAGED (spec/05 R110). -/
theorem State.TrackingLaw.acceptRange {s : State} (h : s.TrackingLaw)
    (hm : s.control.mode = .engaged) (c : LongCmd) (first last : Byte) :
    (s.acceptRange c first last).TrackingLaw := by
  obtain ⟨hqueue, hfill, hlist, hask, hmode⟩ := h
  exact ⟨hqueue, hfill, hlist, hask,
    modeLaw_of_engaged hm (hmode.walk_none (by simp [hm])) (hmode.tracked hm)⟩

/-! ### The claims of the range walks -/

/-- A walk that goes on, or ends, in ENGAGED keeps the law (spec/05 R111). -/
theorem State.TrackingLaw.advanceWalk {s : State} (h : s.TrackingLaw)
    (hm : s.control.mode = .engaged) (w : RangeWalk) (changed : Bool) :
    (s.advanceWalk w changed).TrackingLaw := by
  obtain ⟨hqueue, hfill, hlist, hask, hmode⟩ := h
  exact ⟨hqueue, hfill, hlist, hask,
    modeLaw_of_engaged hm (hmode.walk_none (by simp [hm])) (hmode.tracked hm)⟩

/-- The walk of a command stands in ENGAGED. -/
theorem State.TrackingLaw.engaged_of_walkOf {s : State} (h : s.TrackingLaw) {c : LongCmd}
    {w : RangeWalk} (hw : s.walkOf c = some w) : s.control.mode = .engaged := by
  obtain ⟨-, -, -, -, hmode⟩ := h
  unfold State.walkOf at hw
  split at hw
  · exact hmode.engaged_of_rangeWalk hw
  · cases hw

/-- A discard claim keeps the law (spec/01 R13). -/
theorem State.TrackingLaw.discardTile {s : State} (h : s.TrackingLaw)
    (hm : s.control.mode = .engaged) (t : Tile) : (s.discardTile t).1.TrackingLaw := by
  unfold State.discardTile
  split
  · next ht => exact h.setTile_plain hm (by rw [ht]; rfl) rfl
  · next ht => exact h.dequeue ht rfl
  · next c ht =>
    obtain ⟨-, -, hlist, -⟩ := id h
    rw [State.cancel, State.setTile_chan]
    exact h.stopFill ht rfl ((hlist c).flights.cancelled _) (Channel.cancelled_not_filling _)
  · next ht => exact h.setTile_plain hm (by rw [ht]; rfl) rfl
  · exact h
  · exact h
  · exact h

/-- A prepare claim keeps the law (spec/01 R14). -/
theorem State.TrackingLaw.prepareTile {s : State} (h : s.TrackingLaw)
    (hm : s.control.mode = .engaged) (t : Tile) : (s.prepareTile t).1.TrackingLaw := by
  unfold State.prepareTile
  split
  · next ht => exact h.enqueue hm (by rw [ht]; rfl) (List.perm_append_singleton t s.fillQueue)
  · exact h
  · exact h
  · exact h
  · exact h
  · exact h
  · exact h

/-- An adopt claim keeps the law (spec/01 R14, spec/05 R121). -/
theorem State.TrackingLaw.adoptTile {s : State} (h : s.TrackingLaw)
    (hm : s.control.mode = .engaged) (t : Tile) : (s.adoptTile t).1.TrackingLaw := by
  unfold State.adoptTile
  split
  · next ht => exact h.setTile_plain hm (by rw [ht]; rfl) rfl
  · next ht => exact h.setTile_plain hm (by rw [ht]; rfl) rfl
  · next ht => exact h.dequeue ht rfl
  · exact h
  · exact h
  · exact h
  · exact h

@[simp] theorem State.discardTile_control (s : State) (t : Tile) :
    (s.discardTile t).1.control = s.control := by
  unfold State.discardTile
  split <;> simp

@[simp] theorem State.prepareTile_control (s : State) (t : Tile) :
    (s.prepareTile t).1.control = s.control := by
  unfold State.prepareTile
  split <;> rfl

@[simp] theorem State.adoptTile_control (s : State) (t : Tile) :
    (s.adoptTile t).1.control = s.control := by
  unfold State.adoptTile
  split <;> rfl

theorem execDiscardClaim_keeps_tracking {s t : State} (h : s.TrackingLaw)
    (he : execDiscardClaim s = .next t) : t.TrackingLaw := by
  refine next_inj ?_ he
  split
  · exact h
  · next w hw =>
    have hm := h.engaged_of_walkOf hw
    exact (h.discardTile hm w.next).advanceWalk (by simpa using hm) w _

theorem execPrepareClaim_keeps_tracking {s t : State} (h : s.TrackingLaw)
    (he : execPrepareClaim s = .next t) : t.TrackingLaw := by
  refine next_inj ?_ he
  split
  · exact h
  · next w hw =>
    have hm := h.engaged_of_walkOf hw
    split
    · exact h
    · exact (h.prepareTile hm w.next).advanceWalk (by simpa using hm) w _

theorem execAdoptClaim_keeps_tracking {s t : State} (h : s.TrackingLaw)
    (he : execAdoptClaim s = .next t) : t.TrackingLaw := by
  refine next_inj ?_ he
  split
  · exact h
  · next w hw =>
    have hm := h.engaged_of_walkOf hw
    split
    · exact h
    · exact (h.adoptTile hm w.next).advanceWalk (by simpa using hm) w _

/-! ### Every command, and every step -/

/-- Every command keeps the tracking law. -/
theorem exec_keeps_tracking {s t : State} (i : Instr) (h : s.TrackingLaw)
    (he : exec i s = .next t) : t.TrackingLaw := by
  cases i with
  | request r => exact execRequest_keeps_tracking h r he
  | hostLinkUp => exact execHostLinkUp_keeps_tracking h he
  | memoryLinkUp => exact execMemoryLinkUp_keeps_tracking h he
  | response w st data => exact execResponse_keeps_tracking h w st data he
  | credit n => exact execCredit_keeps_tracking h n he
  | enterDone => exact next_inj (h.takeDone _ fun _ hu => hu.entered) he
  | exitDone => exact next_inj (h.takeDone _ fun _ hu => hu.exited) he
  | responseTimeout tag => exact execResponseTimeout_keeps_tracking h tag he
  | fillWriteTimeout tag => exact execFillWriteTimeout_keeps_tracking h tag he
  | entryTimeout => exact execEntryTimeout_keeps_tracking h he
  | exitTimeout => exact execExitTimeout_keeps_tracking h he
  | halt => exact execHalt_keeps_tracking h he
  | slpReqRise => exact execSlpReqRise_keeps_tracking h he
  | slpReqFall => exact execSlpReqFall_keeps_tracking h he
  | drainCompletion => exact next_inj h.settleDrain he
  | hardReset => exact next_inj s.trackingLaw_hardReset he
  | hardResetEnd => exact execHardResetEnd_keeps_tracking h he
  | headClassification => exact execHeadClassification_keeps_tracking h he
  | fillStart => exact execFillStart_keeps_tracking h he
  | queueAtHead => exact execQueueAtHead_keeps_tracking h he
  | promotion => exact execPromotion_keeps_tracking h he
  | headGrant => exact execHeadGrant_keeps_tracking h he
  | channelGrant c => exact execChannelGrant_keeps_tracking h c he
  | take c => exact execTake_keeps_tracking h c he
  | cursorStep c => exact execCursorStep_keeps_tracking h c he
  | status => exact next_inj (h.takeCommand _ h _) he
  | result => exact next_inj (h.takeCommand _ h _) he
  | get ident => exact next_inj (h.takeCommand _ h _) he
  | set ident value => exact execSet_keeps_tracking h ident value he
  | readTile index => exact next_inj (h.takeCommand _ h _) he
  | readChannel number => exact next_inj (h.takeCommand _ h _) he
  | takeNotice => exact execTakeNotice_keeps_tracking h he
  | unknownCommand code => exact execUnknownCommand_keeps_tracking h code he
  | frameAbandon => exact next_inj h.raiseSelect he
  | engage option =>
    refine next_inj (h.takeLong _ _ fun hw => h.acceptEngage ?_ option) he
    exact mode_of_firstFailure .bypass .mode (by simp) hw
  | engageWalkClaim => exact execEngageWalkClaim_keeps_tracking h he
  | disengage =>
    refine next_inj (h.takeLong _ _ fun hw => h.acceptDisengage ?_) he
    exact mode_of_firstFailure .engaged .mode (by simp) hw
  | disengageEnd => exact next_inj h.settleDisengage he
  | restart => exact next_inj (h.takeLong _ _ fun _ => h.acceptRestart) he
  | restartClear => exact next_inj h.settleRestart he
  | discard first last =>
    refine next_inj (h.takeLong _ _ fun hw => h.acceptRange ?_ _ first last) he
    exact mode_of_firstFailure .engaged .mode (by simp) hw
  | discardClaim => exact execDiscardClaim_keeps_tracking h he
  | prepare first last =>
    refine next_inj (h.takeLong _ _ fun hw => h.acceptRange ?_ _ first last) he
    exact mode_of_firstFailure .engaged .mode (by simp) hw
  | prepareClaim => exact execPrepareClaim_keeps_tracking h he
  | adopt first last =>
    refine next_inj (h.takeLong _ _ fun hw => h.acceptRange ?_ _ first last) he
    exact mode_of_firstFailure .engaged .mode (by simp) hw
  | adoptClaim => exact execAdoptClaim_keeps_tracking h he
  | frameBegin => exact execFrameBegin_keeps_tracking h he
  | frameEnd => exact next_inj h.raiseSelect he

/-- Settles O6: a step is a command, which keeps the law, or a tick of the clock. -/
theorem stepKeepsTrackingLaw : Obligations.StepKeepsTrackingLaw := by
  intro s t h hstep
  rcases step_cases hstep with ⟨c, rest, -, he⟩ | ⟨c, -, -, he⟩ | ⟨-, -, rfl⟩
  · have hrest : ({ s with pending := rest } : State).TrackingLaw := h.congr rfl
    exact exec_keeps_tracking c hrest he
  · exact exec_keeps_tracking c h he
  · exact h.congr rfl

end Sys2Proof.Machine
end

section
/-! The state after reset (O2), and drain completion with its census (O36, O37). -/

namespace Sys2Proof.Machine

/-! ### The state after reset -/

/-- After reset every downstream tag is FREE. -/
@[simp] theorem reset_tag (t : Nat) (h : t < 48) : State.reset.tags[t] = .free := by
  simp [State.reset]

/-- After reset both channels are as hard reset leaves them. -/
@[simp] theorem reset_chan (c : Chan) : State.reset.chan c = Channel.reset := by
  cases c <;> rfl

/-- After reset no host request is downstream. -/
theorem reset_not_issuedFor (t : Tag) (h : HostTag) : ¬ State.reset.issuedFor t h := by
  simp [State.issuedFor]

/-- After reset nothing is tracked. -/
theorem reset_trackingLaw : State.reset.TrackingLaw := by
  refine State.trackingLaw_of_untracked rfl rfl rfl rfl noTiles_get (fun c => ?_) (fun c => ?_)
    (fun c => ?_)
  all_goals simp [Channel.reset, Channel.ListLaw]

/-- After reset no host tag is outstanding, queued or downstream. -/
theorem reset_hostTagLaw : State.reset.HostTagLaw := by
  refine ⟨fun h => ?_, List.nodup_nil, fun t h hi => absurd hi (reset_not_issuedFor t h),
    fun t _ h hi => absurd hi (reset_not_issuedFor t h)⟩
  refine iff_of_false (by simp [State.reset, HostLink.reset, hasTag]) ?_
  rintro (hm | ⟨t, ht⟩)
  · cases hm
  · exact reset_not_issuedFor t h ht

/-- Settles O2: the laws one by one, each read off the fields of the reset state. -/
theorem resetMeetsEveryLaw : Obligations.ResetMeetsEveryLaw := by
  refine ⟨?credit, reset_hostTagLaw, ?notice, ?link, reset_trackingLaw, ?tag, ?handshake,
    ?retention, ?port, ?reset, ?clock⟩
  case credit => exact ⟨rfl, by decide, fun _ => ⟨rfl, rfl⟩⟩
  case notice => exact ⟨by decide, by decide, by decide, by decide⟩
  case link =>
    refine ⟨?_, by decide, by decide, by decide, by decide⟩
    unfold Settings.InRange
    decide
  case tag => exact ⟨by simp [Channel.reset], by simp [Channel.reset]⟩
  case handshake => exact ⟨by decide, by decide, by decide, by decide, by decide, rfl, rfl⟩
  case retention =>
    refine ⟨fun c => ?_, by decide, by decide, by decide⟩
    rw [reset_chan]
    rfl
  case port =>
    exact ⟨by decide, by decide, by decide, by decide, by decide, by decide,
      by simp [State.reset, MgmtPort.reset]⟩
  case reset => exact fun h => absurd h (by decide)
  case clock => exact ⟨by simp, by simp [State.reset, Retention.reset]⟩

/-! ### Drain completion and its census -/

/-- A tile counts toward the kept sets exactly where it is LIVE or FILLING (spec/04 R89). -/
theorem TileState.counts_iff (x : TileState) :
    x.counts = true ↔ x = .live ∨ ∃ c, x = .filling c := by
  cases x <;> simp [TileState.counts]

/-- The lane of a tile is its index modulo 8 (spec/01 R2). -/
@[simp] theorem laneOf_val (t : Tile) : (laneOf t).val = t.val % 8 := by
  simp [laneOf]

/-- The band of a tile is its index divided by 8 (spec/01 R2). -/
@[simp] theorem bandOf_val (t : Tile) : (bandOf t).val = t.val / 8 := by
  have := t.isLt
  simp only [bandOf, Fin.val_ofNat]
  omega

/-- A lane counts where some LIVE or FILLING tile lies in it (spec/04 R89). -/
theorem laneCounts_iff (s : State) (l : Nat) :
    s.laneCounts l = true ↔
      ∃ t : Tile, t.val % 8 = l ∧ (s.tiles[t] = .live ∨ ∃ c, s.tiles[t] = .filling c) := by
  simp only [State.laneCounts, List.any_eq_true, List.mem_finRange, true_and, Bool.and_eq_true,
    beq_iff_eq, laneOf_val, TileState.counts_iff]

/-- A band counts where some LIVE or FILLING tile lies in it (spec/04 R89). -/
theorem bandCounts_iff (s : State) (b : Nat) :
    s.bandCounts b = true ↔
      ∃ t : Tile, t.val / 8 = b ∧ (s.tiles[t] = .live ∨ ∃ c, s.tiles[t] = .filling c) := by
  simp only [State.bandCounts, List.any_eq_true, List.mem_finRange, true_and, Bool.and_eq_true,
    beq_iff_eq, bandOf_val, TileState.counts_iff]

/-- Settles O37: a bit of a census is the floor's bit, or that some tile counts there. -/
theorem keptSetsFollowTheCensus : Obligations.KeptSetsFollowTheCensus := by
  intro s
  refine ⟨fun hm => ⟨fun l => ?_, fun b => ?_⟩, fun hm => ⟨fun l => ?_, fun b => ?_⟩⟩
  · rw [State.censusLanes, if_neg (by simp [hm]), BitVec.getLsbD_or,
      memberBits_getLsbD _ _ _ l.isLt, Bool.or_eq_true, laneCounts_iff]
  · rw [State.censusBands, if_neg (by simp [hm]), BitVec.getLsbD_or,
      memberBits_getLsbD _ _ _ b.isLt, Bool.or_eq_true, bandCounts_iff]
  · rw [State.censusLanes, if_pos hm, BitVec.getLsbD_allOnes, decide_eq_true l.isLt]
  · rw [State.censusBands, if_pos hm, BitVec.getLsbD_allOnes, decide_eq_true b.isLt]

/-- A tile lies outside the kept product exactly where its lane or its band is not kept
(spec/04 R89). -/
theorem keptTile_false_iff (lanes : LaneSet) (bands : BandSet) (t : Tile) :
    keptTile lanes bands t = false ↔
      lanes.getLsbD (t.val % 8) = false ∨ bands.getLsbD (t.val / 8) = false := by
  simp only [keptTile, Bool.and_eq_false_iff, laneOf_val, bandOf_val]

/-- The record of a tile after the drop (spec/01 R15). -/
theorem dropTiles_get (lanes : LaneSet) (bands : BandSet) (v : Vector TileState 128) (t : Tile) :
    (dropTiles lanes bands v)[t] =
      if v[t] = .discarded ∧ keptTile lanes bands t = false then .void else v[t] := by
  simp only [Fin.getElem_fin, dropTiles_getElem]

/-- A drain is settled by its completion where its three conditions hold (spec/04 R86). -/
theorem settleDrain_eq {s : State} (hd : s.ret.state = .draining)
    (ht : ∀ t : Tag, (s.tags[t]).isInUse = false)
    (hm : s.control.mode = .bypass ∨ s.control.mode = .engaged) :
    s.settleDrain = s.completeDrain := by
  rw [State.settleDrain, if_pos ((drainDone_iff s).2 ⟨hd, ht, hm⟩)]

/-- Where one of the three conditions fails, no drain is settled (spec/04 R86). -/
theorem settleDrain_eq_self {s : State}
    (h : s.ret.state ≠ .draining ∨ (∃ t : Tag, (s.tags[t]).isInUse = true) ∨
      (s.control.mode ≠ .bypass ∧ s.control.mode ≠ .engaged)) : s.settleDrain = s := by
  refine if_neg fun hd => ?_
  obtain ⟨h1, h2, h3⟩ := (drainDone_iff s).1 hd
  rcases h with h | ⟨t, ht⟩ | ⟨hb, he⟩
  · exact h h1
  · rw [h2 t] at ht
    cases ht
  · exact h3.elim hb he

/-- Settles O36: the conditions of R86 decide, and the drop is tile by tile. -/
theorem drainCompletionEnters : Obligations.DrainCompletionEnters := by
  intro s
  refine ⟨fun hd ht hm => congrArg _ (settleDrain_eq hd ht hm),
    fun h => congrArg _ (settleDrain_eq_self h),
    dropTiles s.censusLanes s.censusBands s.tiles, rfl, fun t => ⟨fun hd hk => ?_, fun hk => ?_⟩⟩
  · rw [dropTiles_get, if_pos ⟨hd, (keptTile_false_iff _ _ t).2 hk⟩]
  · rw [dropTiles_get, if_neg]
    rintro ⟨hd, hout⟩
    rw [keptTile_false_iff] at hout
    simp_all

end Sys2Proof.Machine
end

section
/-! The Dispatch Unit: the head's classification, its claims and its grant (O40, O42, O44). -/

namespace Sys2Proof.Machine

/-! ### The head's commands, with dispatch running and suspended -/

/-- With dispatch running the head is classified. -/
theorem exec_headClassification_eq {s : State} {r : HostRequest} {rest : List HostRequest}
    (hr : s.requests = r :: rest) (hd : s.dispatchRuns = true) :
    exec .headClassification s = .next (s.settleHead r (classify s r)) := by
  simp only [exec, execHeadClassification, hr, hd, if_true]

/-- With dispatch suspended, or no head, nothing is classified. -/
theorem exec_headClassification_none {s : State}
    (h : s.dispatchRuns = false ∨ s.requests = []) : exec .headClassification s = .next s := by
  cases hr : s.requests with
  | nil => simp only [exec, execHeadClassification, hr]
  | cons r rest =>
    have hd : s.dispatchRuns = false := h.resolve_right (by simp [hr])
    simp [exec, execHeadClassification, hr, hd]

/-- With dispatch suspended, or no head, no grant is used. -/
theorem exec_headGrant_none {s : State} (h : s.dispatchRuns = false ∨ s.requests = []) :
    exec .headGrant s = .next s := by
  cases hr : s.requests with
  | nil => cases hf : s.lowestFree <;> simp only [exec, execHeadGrant, hr, hf]
  | cons r rest =>
    have hd : s.dispatchRuns = false := h.resolve_right (by simp [hr])
    cases hf : s.lowestFree <;> simp [exec, execHeadGrant, hr, hd, hf]

/-- The head acts on the grant it is given (spec/02 R29). -/
theorem exec_headGrant_eq {s : State} {r : HostRequest} {rest : List HostRequest} {tag : Tag}
    (hr : s.requests = r :: rest) (hd : s.dispatchRuns = true) (hg : s.GrantsHead tag) :
    exec .headGrant s = .next (s.grantHead r tag) := by
  obtain ⟨hgrant, hfree, -⟩ := hg
  simp [exec, execHeadGrant, hr, hd, hgrant, hfree]

/-- A head that is not forwarded is classified at its grant instead (spec/02 R29). -/
theorem grantHead_eq_settleHead {s : State} {r : HostRequest} (tag : Tag)
    (h : ∀ how, classify s r ≠ .forward how) :
    s.grantHead r tag = s.settleHead r (classify s r) := by
  unfold State.grantHead
  cases hc : classify s r with
  | forward how => exact absurd hc (h how)
  | answer st data n => rfl
  | wait => rfl
  | claim c => rfl

/-- In BYPASS every head is forwarded as received (spec/02 R31). -/
theorem classify_bypass {s : State} (hm : s.control.mode = .bypass) (r : HostRequest) :
    classify s r = .forward .plain := by
  simp only [classify, hm, if_true]

/-- A queue has a head exactly where it is not empty. -/
theorem requests_of_head {s : State} {r : HostRequest} (h : s.requests.head? = some r) :
    ∃ rest, s.requests = r :: rest := by
  cases hr : s.requests with
  | nil => simp [hr] at h
  | cons x xs =>
    rw [hr, List.head?_cons, Option.some_inj] at h
    exact ⟨xs, by rw [h]⟩

/-- The head's classification on its tile (spec/02 R28, R32). -/
theorem exec_headClassification_headAt {s : State} {r : HostRequest} {t : Tile} {o : Nat}
    (h : s.HeadAt r t o) :
    exec .headClassification s = .next (s.settleHead r (classifyTile s t o r)) := by
  obtain ⟨hc, ⟨rest, hr⟩, hd⟩ := classify_of_headAt h
  rw [exec_headClassification_eq hr hd, hc]

/-- Settles O40: each case is one outcome of the classification on the head's tile. -/
theorem headIsForwardOrMakesItsClaim : Obligations.HeadIsForwardOrMakesItsClaim := by
  intro s r becomes
  refine ⟨fun h => ?_, fun hm ha hr => ?_, fun t o hat => ⟨fun ht => ?_, fun hk => ?_⟩⟩
  · have hd : s.dispatchRuns = false := by
      rw [Bool.eq_false_iff, Ne, dispatchRuns_iff]
      tauto
    exact ⟨exec_headClassification_none (.inl hd), exec_headGrant_none (.inl hd)⟩
  · obtain ⟨rest, hr⟩ := requests_of_head hr
    have hd := (dispatchRuns_iff s).2 ⟨.inl hm, ha⟩
    exact (exec_headClassification_eq hr hd).trans (by rw [classify_bypass hm]; rfl)
  · refine (exec_headClassification_headAt hat).trans ?_
    have hc : ∃ how, classifyTile s t o r = .forward how := by
      rcases ht with ht | ht
      · exact ⟨.plain, by simp only [classifyTile, ht]⟩
      · cases hk : r.body.kind
        · exact ⟨.plain, by simp only [classifyTile, ht, hk]⟩
        · exact ⟨.writeClaim t, by simp only [classifyTile, ht, hk]⟩
    obtain ⟨how, hc⟩ := hc
    rw [hc]
    rfl
  · have hvoid (ht : s.tiles[t] = .void) {c : DispatchClaim} (hv : voidWriteClaim s t = c) :
        exec .headClassification s = .next (s.makeClaim c) := by
      rw [exec_headClassification_headAt hat, classifyTile, ht, hk, ← hv]
      rfl
    refine ⟨fun ht h0 => hvoid ht (c := .fillStart t .ch0) ?_,
      fun ht h0 h1 => hvoid ht (c := .fillStart t .ch1) ?_,
      fun ht h0 h1 => hvoid ht (c := .queueAtHead t) ?_, fun ht => ?_⟩
    · simp [voidWriteClaim, Channel.isIdle, h0]
    · simp [voidWriteClaim, Channel.isIdle, h0, h1]
    · simp [voidWriteClaim, Channel.isIdle, h0, h1]
    · refine (exec_headClassification_headAt hat).trans ?_
      rw [classifyTile, ht, hk]
      rfl

/-! ### The claims of the head, as they arrive -/

/-- A fill start, with the head then to be classified (spec/01 R8, spec/02 R30). -/
theorem startFill_dropHead (s : State) (t : Tile) (c : Chan) :
    (s.startFill t c).dropHead =
      { s with tiles := s.tiles.set t (.filling c),
               dispatch := { headClass := none, claim := none } }.setChan c
        { s.chan c with state := .filling t, cursor := 0, skip := [], inFlight := [] } := by
  cases c <;> rfl

/-- In a list without duplicates, taking a tile away takes it wherever it stands. -/
theorem erase_eq_filter {l : List Tile} (h : l.Nodup) (t : Tile) :
    l.erase t = l.filter fun x => x ≠ t := by
  rw [h.erase_eq_filter]
  refine List.filter_congr fun x _ => ?_
  simp [bne, Bool.beq_eq_decide_eq]

/-- Settles O42: each claim by the record it finds. -/
theorem dispatchClaimsArrive : Obligations.DispatchClaimsArrive := by
  intro s t c hm ha clear waiting started
  have hd : s.dispatchRuns = true := (dispatchRuns_iff s).2 ⟨hm, ha⟩
  refine ⟨fun hc => ?_, fun hc => ?_, fun hc => ?_⟩
  · refine ⟨fun ht => ?_, fun ht hi => ?_, fun ht hi ho => ?_, fun ht hi ho => ?_⟩
    · simp only [exec, execFillStart, hc, hd, if_true, if_neg ht]
      rfl
    · simp only [exec, execFillStart, hc, hd, if_true, if_pos ht, Channel.isIdle, hi, decide_true,
        startFill_dropHead]
      rfl
    · simp only [exec, execFillStart, hc, hd, if_true, if_pos ht, Channel.isIdle, hi, ho,
        decide_true, decide_false, Bool.false_eq_true, if_false, startFill_dropHead]
      rfl
    · simp only [exec, execFillStart, hc, hd, if_true, if_pos ht, Channel.isIdle, hi, ho,
        decide_false, Bool.false_eq_true, if_false]
      rfl
  · refine ⟨fun ht => ?_, fun ht => ?_⟩
    · simp only [exec, execQueueAtHead, hc, hd, if_true, State.takeQueueAtHead, if_pos ht]
      rfl
    · simp only [exec, execQueueAtHead, hc, hd, if_true, State.takeQueueAtHead, if_neg ht]
      rfl
  · refine ⟨fun ht hn => ?_, fun ht => ?_⟩
    · simp only [exec, execPromotion, hc, hd, if_true, if_pos ht, erase_eq_filter hn]
      rfl
    · simp only [exec, execPromotion, hc, hd, if_true, if_neg ht]
      rfl

/-! ### The grant of the head -/

/-- A head forwarded as received, at its grant (spec/02 R44). -/
theorem exec_headGrant_plain {s : State} {r : HostRequest} {rest : List HostRequest} {tag : Tag}
    (hr : s.requests = r :: rest) (hd : s.dispatchRuns = true) (hg : s.GrantsHead tag)
    (hc : classify s r = .forward .plain) :
    exec .headGrant s = .next (s.afterIssue r tag none r.body) := by
  have ho : s.host.owed = 0 := hg.2.2
  rw [exec_headGrant_eq hr hd hg, State.grantHead, hc]
  exact congrArg _ (issueHead_eq s r tag .plain ho)

/-- A skip entry stands at an offset where the list holds one with it. -/
theorem skipAt_isSome {r : Channel} {o : Nat} (h : ∃ e ∈ r.skip, e.offset = o) :
    ∃ e, r.skipAt o = some e := by
  obtain ⟨e, he, ho⟩ := h
  rw [← Option.isSome_iff_exists, Channel.skipAt, List.find?_isSome]
  exact ⟨e, he, by simpa using ho⟩

/-- Below the cursor with nothing in flight there, a head is forwarded as received
(spec/02 R38). -/
theorem classifyFilling_below {s : State} {c : Chan} {o : Nat} {r : HostRequest}
    (hf : ∀ e ∈ (s.chan c).inFlight, e.offset ≠ o) (ho : o < (s.chan c).cursor) :
    classifyFilling s c o r = .forward .plain := by
  have hnone : (s.chan c).flightAt o = false := by
    rw [Bool.eq_false_iff, Ne, flightAt_iff]
    rintro ⟨e, he, heo⟩
    exact hf e he heo
  simp [classifyFilling, hnone, ho]

/-- A read over a skip entry with nothing in flight there is forwarded as received (spec/02 R39). -/
theorem classifyFilling_over {s : State} {c : Chan} {o : Nat} {r : HostRequest}
    (hk : r.body.kind = .read) (hf : ∀ e ∈ (s.chan c).inFlight, e.offset ≠ o)
    (he : ∃ e ∈ (s.chan c).skip, e.offset = o) : classifyFilling s c o r = .forward .plain := by
  obtain ⟨e, he⟩ := skipAt_isSome he
  have hnone : (s.chan c).flightAt o = false := by
    rw [Bool.eq_false_iff, Ne, flightAt_iff]
    rintro ⟨e, he, heo⟩
    exact hf e he heo
  simp [classifyFilling, hnone, hk, he]

/-- Settles O44: the grant-time classification decides, and an outcome other than FORWARD is the one
HEAD_CLASSIFICATION leaves. -/
theorem grantedHeadIsIssuedAsReceived : Obligations.GrantedHeadIsIssuedAsReceived := by
  intro s r tag hg
  refine ⟨fun hm ha hr => ?_, fun t o hat => ?_, fun u hu hcls => ?_⟩
  · obtain ⟨rest, hr⟩ := requests_of_head hr
    exact exec_headGrant_plain hr ((dispatchRuns_iff s).2 ⟨.inl hm, ha⟩) hg (classify_bypass hm r)
  · obtain ⟨hc, ⟨rest, hr⟩, hd⟩ := classify_of_headAt hat
    have hplain (hct : classifyTile s t o r = .forward .plain) :
        exec .headGrant s = .next (s.afterIssue r tag none r.body) :=
      exec_headGrant_plain hr hd hg (hc.trans hct)
    refine ⟨fun ht => hplain ?_, fun ht hk => ?_, fun c ht ho hf => hplain ?_,
      fun c ht hk _ hf he => hplain ?_⟩
    · rcases ht with ht | ⟨ht, hk⟩
      · simp only [classifyTile, ht]
      · simp only [classifyTile, ht, hk]
    · have hct : classifyTile s t o r = .forward (.writeClaim t) := by
        simp only [classifyTile, ht, hk]
      rw [exec_headGrant_eq hr hd hg, State.grantHead, hc, hct]
      exact congrArg _ (issueHead_eq s r tag (.writeClaim t) hg.2.2)
    · rw [classifyTile, ht]
      exact classifyFilling_below hf ho
    · rw [classifyTile, ht]
      exact classifyFilling_over hk hf he
  · by_cases hrun : s.dispatchRuns = true ∧ s.requests ≠ []
    · obtain ⟨hd, hne⟩ := hrun
      obtain ⟨x, rest, hr⟩ := List.exists_cons_of_ne_nil hne
      rw [exec_headClassification_eq hr hd] at hu
      rw [exec_headGrant_eq hr hd hg, grantHead_eq_settleHead tag, hu]
      intro how hc
      rw [hc] at hu
      injection hu with hu
      exact hcls (by rw [← hu]; rfl)
    · have hnone : s.dispatchRuns = false ∨ s.requests = [] := by
        by_contra hno
        rw [not_or, Bool.not_eq_false] at hno
        exact hrun hno
      rw [exec_headClassification_none hnone] at hu
      rwa [exec_headGrant_none hnone]

end Sys2Proof.Machine
end

section
/-! The Fill Engine: the take from the Fill Queue (O47) and the outcomes of a fill write (O24,
O25). -/

namespace Sys2Proof.Machine

/-! ### The take -/

/-- The command of a take of a QUEUED head tile (spec/03 R70, R71). -/
theorem exec_take_eq {s : State} {t : Tile} {rest : List Tile} (hq : s.fillQueue = t :: rest)
    (ht : s.tiles[t] = .queued) (c : Chan) :
    exec (.take c) s =
      .next (if s.mayTake c then
        { s with tiles := s.tiles.set t (.filling c), fillQueue := rest }.setChan c
          { s.chan c with state := .filling t, cursor := 0, skip := [], inFlight := [] }
        else s) := by
  have htaken : ({ s.startFill t c with fillQueue := rest } : State) =
      { s with tiles := s.tiles.set t (.filling c), fillQueue := rest }.setChan c
        { s.chan c with state := .filling t, cursor := 0, skip := [], inFlight := [] } := by
    cases c <;> rfl
  simp only [exec, execTake, hq, ht, and_true, htaken]

/-- Settles O47: who may take, channel by channel. -/
theorem idleChannelTakesTheQueueHead : Obligations.IdleChannelTakesTheQueueHead := by
  intro s t rest hq ht hm taken
  have hcan (c : Chan) : s.canTake c = true ↔
      (s.chan c).state = .idle ∧ (s.chan c).paused = false := by
    simpa [hm] using canTake_iff s c
  refine ⟨fun hi hp => ?_, fun hi hp => ⟨fun h0 => ?_, fun h0 hp0 => ?_⟩, fun c hp => ?_⟩
  · have hmay : s.mayTake .ch0 = true := (hcan .ch0).2 ⟨hi, hp⟩
    rw [exec_take_eq hq ht, if_pos hmay]
  · have hmay : s.mayTake .ch1 = true := by
      have h1 : s.canTake .ch1 = true := (hcan .ch1).2 ⟨hi, hp⟩
      have hno : s.canTake .ch0 = false := by
        rw [Bool.eq_false_iff, Ne, hcan]
        rintro ⟨hi0, hp0⟩
        rcases h0 with h0 | h0
        · exact h0 hi0
        · rw [State.chan_ch0, h0] at hp0
          cases hp0
      rw [State.mayTake, h1, hno]
      rfl
    rw [exec_take_eq hq ht, if_pos hmay]
  · have h0 : s.canTake .ch0 = true := (hcan .ch0).2 ⟨h0, hp0⟩
    rw [exec_take_eq hq ht, if_neg (by simp [State.mayTake, h0])]
  · have hno : s.canTake c = false := by
      rw [Bool.eq_false_iff, Ne, hcan, hp]
      simp
    rw [exec_take_eq hq ht, if_neg]
    cases c <;> simp [State.mayTake, hno]

/-! ### The outcome of a fill write, as it reaches its channel -/

/-- A RESPONSE for one of the 48 tags, after link-up (spec/06 R136). -/
theorem exec_response_eq {s : State} {w : Fin 64} {t : Tag} (hup : s.link.up = true)
    (hw : w.val = t.val) (st : MemStatus) (data : Burst) :
    exec (.response w st data) s = .next (s.takeResponse t st data) := by
  have hlt : w.val < 48 := by omega
  have ht : (⟨w.val, hlt⟩ : Tag) = t := Fin.ext hw
  simp only [exec, execResponse, hup, if_true, dif_pos hlt, ht]

/-- The response to a fill write frees its tag and is handed to its channel (spec/06 R138). -/
theorem takeResponse_fill {s : State} {t : Tag} {a : Addr} {c : Chan} {o : Nat} {d : Micros}
    (ht : s.tags[t] = .inUse (.fill a c o) d) (st : MemStatus) (data : Burst) :
    s.takeResponse t st data = ((s.setTag t .free).handFill c o t (st = .ok)).settleTag := by
  simp only [State.takeResponse, ht]

/-- A fill write's deadline that passes is handed to its channel as a failure (spec/06 R140). -/
theorem exec_fillWriteTimeout_eq {s : State} {t : Tag} {a : Addr} {c : Chan} {o : Nat} {d : Micros}
    (ht : s.tags[t] = .inUse (.fill a c o) d) (hd : s.NoDeadlineBefore d) :
    exec (.fillWriteTimeout t) s =
      .next (({ s.post { kind := .responseTimeout, addr := some a, chan := some c } with
        now := max s.now d, tags := s.tags.set t (.quarantined (.fill a c o)) } : State).handFill
          c o t false).settleTag := by
  simp only [exec, execFillWriteTimeout, ht, (noneBefore_iff s d).2 hd, if_true]
  rfl

/-- A fill write of a FILLING channel answered OK leaves the in-flight list (spec/03 R61). -/
theorem handFill_ok {s : State} {c : Chan} {o : Nat} {t : Tag} {e : FlightEntry} {k : Tile}
    (he : (s.chan c).flightOf o t = some e) (hm : s.control.mode ≠ .restarting)
    (hs : (s.chan c).state = .filling k) :
    s.handFill c o t true =
      (s.setChan c
        { s.chan c with inFlight := dropFlight o (s.chan c).inFlight }).tryComplete c := by
  simp only [State.handFill, he, if_neg hm, hs, if_true]

/-- A first failure of a fill write of a FILLING channel (spec/03 R62). -/
theorem handFill_first {s : State} {c : Chan} {o : Nat} {t : Tag} {e : FlightEntry} {k : Tile}
    (he : (s.chan c).flightOf o t = some e) (hm : s.control.mode ≠ .restarting)
    (hs : (s.chan c).state = .filling k) (ha : e.attempt = .first) :
    s.handFill c o t false = s.retryFill c k o := by
  simp only [State.handFill, he, if_neg hm, hs, ha, Bool.false_eq_true, if_false]

/-- A second failure of a fill write fails its tile: the channel leaves it, awaiting its other
ISSUED entries (spec/03 R65, R76). -/
theorem handFill_second {s : State} {c : Chan} {o : Nat} {t : Tag} {e : FlightEntry} {k : Tile}
    (he : (s.chan c).flightOf o t = some e) (hm : s.control.mode ≠ .restarting)
    (hs : (s.chan c).state = .filling k) (hk : s.tiles[k] = .filling c)
    (ha : e.attempt = .second) :
    s.handFill c o t false =
      ((s.setTile k .failed).setChan c ((s.chan c).leaving
        ((s.chan c).inFlight.filter fun x => x.offset ≠ o ∧ x.status ≠ .retryWait))).post
        { kind := .fillFailed, tile := some k, addr := some (fillAddr s.settings k o),
          chan := some c } := by
  have hleft : Channel.cancelled { s.chan c with inFlight := dropFlight o (s.chan c).inFlight } =
      (s.chan c).leaving
        ((s.chan c).inFlight.filter fun x => x.offset ≠ o ∧ x.status ≠ .retryWait) := by
    have hl : (dropFlight o (s.chan c).inFlight).filter (fun x => x.status ≠ .retryWait) =
        (s.chan c).inFlight.filter fun x => x.offset ≠ o ∧ x.status ≠ .retryWait := by
      rw [dropFlight, List.filter_filter]
      refine List.filter_congr fun x _ => ?_
      rw [← Bool.decide_and]
      exact decide_eq_decide.2 and_comm
    rw [Channel.cancelled_eq]
    exact congrArg (s.chan c).leaving hl
  have hfail : s.handFill c o t false = s.failTile c k o := by
    simp only [State.handFill, he, if_neg hm, hs, ha, Bool.false_eq_true, if_false]
  rw [hfail, State.failTile, if_pos hk, hleft]

/-- A channel stands at its end exactly where the cursor is at the burst count and both lists are
empty (spec/03 R67). -/
theorem Channel.atEnd_iff (n : Nat) (r : Channel) :
    r.atEnd n = true ↔ r.cursor = n ∧ r.skip = [] ∧ r.inFlight = [] := by
  simp [Channel.atEnd, and_assoc]

/-- A channel whose new record is not at its end claims nothing (spec/03 R67). -/
theorem tryComplete_setChan_of_not_atEnd {s : State} {c : Chan} {r : Channel}
    (h : r.atEnd s.settings.burstCount = false) :
    (s.setChan c r).tryComplete c = s.setChan c r := by
  rcases tryComplete_cases (s.setChan c r) c with ⟨t, -, -, hend, -⟩ | he
  · rw [State.setChan_chan, State.setChan_settings] at hend
    exact absurd (hend.symm.trans h) (by simp)
  · exact he

/-- A channel whose new record is at its end completes its tile (spec/01 R12, spec/03 R67). -/
theorem tryComplete_setChan_of_atEnd {s : State} {c : Chan} {r : Channel} {k : Tile}
    (hs : r.state = .filling k) (hend : r.atEnd s.settings.burstCount = true)
    (hm : s.control.mode ≠ .restarting) (hk : s.tiles[k] = .filling c) :
    (s.setChan c r).tryComplete c = ((s.setTile k .live).setChan c r.finished).post
      { kind := .fillDone, tile := some k, chan := some c } := by
  have hs' : ((s.setChan c r).chan c).state = .filling k := by rw [State.setChan_chan]; exact hs
  have hend' : ((s.setChan c r).chan c).atEnd (s.setChan c r).settings.burstCount = true := by
    rw [State.setChan_chan, State.setChan_settings]; exact hend
  have htwice : (((s.setChan c r).setTile k .live).setChan c ((s.setChan c r).chan c).finished) =
      (s.setTile k .live).setChan c r.finished := by
    cases c <;> rfl
  simp only [State.tryComplete, hs', hend', State.setChan_control, State.setChan_tiles, hk, htwice]
  rw [if_pos ⟨trivial, hm, trivial⟩]

/-- Settles O24: the entry leaves, and the end of the tile is looked for. -/
theorem fillWriteAnsweredOk : Obligations.FillWriteAnsweredOk := by
  intro s w t data c o a d e k hup hw hm hdown hs hk rest u
  have hanswer : exec (.response w .ok data) s =
      .next ((u.setChan c { s.chan c with inFlight := rest }).tryComplete c).settleTag := by
    have hchan : u.chan c = s.chan c := State.chan_congr rfl rfl c
    rw [exec_response_eq hup hw, takeResponse_fill hdown.1]
    have hok := handFill_ok (s := u) (by rw [hchan]; exact flightOf_eq hdown) hm
      (by rw [hchan]; exact hs)
    rw [hchan] at hok
    exact congrArg (fun v : State => Host.Outcome.next v.settleTag) hok
  have hend := Channel.atEnd_iff u.settings.burstCount { s.chan c with inFlight := rest }
  refine ⟨fun h => ?_, fun h1 h2 h3 => ?_⟩
  · rw [hanswer, tryComplete_setChan_of_not_atEnd]
    rw [Bool.eq_false_iff, Ne, hend]
    rintro ⟨h1, h2, h3⟩
    rcases h with h | h | h
    · exact h h1
    · exact h h2
    · exact h h3
  · rw [hanswer, tryComplete_setChan_of_atEnd (r := { s.chan c with inFlight := rest }) hs
      (hend.2 ⟨h1, h2, h3⟩) hm hk]
    rfl

/-- Settles O25: a failure is handed to the channel as it stands, by either command. -/
theorem failedFillWriteIsRetriedOnce : Obligations.FailedFillWriteIsRetriedOnce := by
  intro s w t data c o a d e k hup hw hm hdown hs hk answered overdue waiting left retry failed
  have hflight := flightOf_eq hdown
  have htag : s.tags[t] = .inUse (.fill a c o) d := hdown.1
  have hanswer : exec (.response w .error data) s =
      .next (answered.handFill c o t false).settleTag := by
    rw [exec_response_eq hup hw, takeResponse_fill htag]
    rfl
  have hpass (hd : s.NoDeadlineBefore d) : exec (.fillWriteTimeout t) s =
      .next (overdue.handFill c o t false).settleTag := exec_fillWriteTimeout_eq htag hd
  have ha : answered.chan c = s.chan c := State.chan_congr rfl rfl c
  have hv : overdue.chan c = s.chan c := State.chan_congr rfl rfl c
  refine ⟨fun he => ?_, fun he => ?_, fun hd => ?_⟩
  · have hfirst (u : State) (hu : u.chan c = s.chan c) (hc : u.control = s.control)
        (hg : u.settings = s.settings) :
        u.handFill c o t false = (u.setChan c waiting).post retry := by
      rw [handFill_first (by rw [hu]; exact hflight) (by rw [hc]; exact hm) (by rw [hu]; exact hs)
        he, State.retryFill, hu, hg]
      rfl
    rw [hanswer, hfirst answered ha rfl rfl]
    exact ⟨rfl, fun hd => by rw [hpass hd, hfirst overdue hv rfl rfl]⟩
  · have hsecond (u : State) (hu : u.chan c = s.chan c) (hc : u.control = s.control)
        (hg : u.settings = s.settings) (ht : u.tiles = s.tiles) :
        u.handFill c o t false =
          (({ u with tiles := s.tiles.set k .failed } : State).setChan c left).post failed := by
      rw [handFill_second (by rw [hu]; exact hflight) (by rw [hc]; exact hm) (by rw [hu]; exact hs)
        (by rw [ht]; exact hk) he, State.setTile, hu, hg, ht]
    rw [hanswer, hsecond answered ha rfl rfl rfl]
    exact ⟨rfl, fun hd => by rw [hpass hd, hsecond overdue hv rfl rfl rfl]⟩
  · simp only [exec, execFillWriteTimeout, htag, (noneBefore_false_iff s d).2 hd,
      Bool.false_eq_true, if_false]

end Sys2Proof.Machine
end

section
/-! The long commands: ENGAGE and its walk (O56), DISENGAGE (O57), RESTART (O58) and the claims of
the range walks (O60). -/

namespace Sys2Proof.Machine

/-! ### Acceptance -/

/-- With no command running, no long command is answered BUSY (spec/09 R178). -/
theorem busyFor_of_not_running {s : State} (h : s.port.running = none) (c : LongCmd) :
    s.busyFor c = false := by
  simp only [State.busyFor, h]

/-- A settling event with no drain under way settles nothing. -/
theorem settleDrain_of_active {s : State} (h : s.ret.state = .active) : s.settleDrain = s :=
  settleDrain_eq_self (.inl (by simp [h]))

/-! ### ENGAGE -/

/-- ENGAGE is accepted in BYPASS and ACTIVE with an option in range (spec/10 R199). -/
theorem exec_engage_eq {s : State} {b : Byte} {o : EngageOption} (hf : s.FrameOpen)
    (hr : s.port.running = none) (hm : s.control.mode = .bypass) (ha : s.ret.state = .active)
    (ho : engageOption b = some o) :
    exec (.engage b) s = .next { s with
      control := { mode := .engaging, walk := some { pos := 0, option := o } },
      dispatch := { headClass := none, claim := none },
      port := s.port.accepted .engage none } := by
  have hj : s.judgeEngage b = none := by
    simp [State.judgeEngage, firstFailure, State.modeIs, State.retActive, hm, ha, ho]
  have hacc : s.acceptEngage b = { (s.begin .engage).dropHead with
      control := { mode := .engaging, walk := some { pos := 0, option := o } } } := by
    simp only [State.acceptEngage, ho]
  simp only [exec, execEngage, hj, takeLong_accepted hf _ _ _ (busyFor_of_not_running hr _), hacc]
  rfl

/-- The state an ENGAGE option leaves a tile in (spec/01 R16). -/
theorem EngageOption.tileState_eq (o : EngageOption) :
    o.tileState = if o = .assumeLive then .live else .void := by
  cases o <;> rfl

/-- Settles O56: the acceptance, and the two cases of a claim. -/
theorem engageWalksEveryTile : Obligations.EngageWalksEveryTile := by
  intro s
  refine ⟨fun hf hr hm ha => ⟨exec_engage_eq hf hr hm ha rfl, exec_engage_eq hf hr hm ha rfl⟩,
    fun w hw ht => ?_⟩
  intro claimed counted
  have hclaim : s.claimEngage w = { s with tiles := claimed,
                                           port := { s.port with result := counted } } := by
    rw [State.claimEngage, w.option.tileState_eq]
    rfl
  refine ⟨fun hpos => ?_, fun hpos => ?_⟩
  · have hpos : w.pos.val ≠ 127 := fun h => hpos (Fin.ext h)
    simp only [exec, execEngageWalkClaim, hw, ht, if_true, if_neg hpos, hclaim]
  · intro ended
    have hpos : w.pos.val = 127 := by rw [hpos]; rfl
    have hend : exec .engageWalkClaim s = .next ended.settleDrain := by
      simp only [exec, execEngageWalkClaim, hw, ht, if_true, if_pos hpos, hclaim]
      rfl
    refine ⟨fun hd hi => ?_, fun h => ?_⟩
    · rw [hend, settleDrain_eq (s := ended) hd hi (.inr rfl)]
    · rw [hend, settleDrain_eq_self]
      exact h.imp id .inl

/-! ### DISENGAGE -/

/-- The record a channel has at the acceptance of DISENGAGE (spec/03 R75, R76). -/
theorem Channel.released_examined (m : Mode) (n : Nat) (r : Channel) :
    r.released.examined m n =
      if r.isFilling then
        { r.leaving (r.inFlight.filter fun e => e.status ≠ .retryWait) with asks := false }
      else { r with asks := false } := by
  have hasks : r.released.wants m n = false := by
    refine Channel.wants_eq_false _ _ _ fun t => ?_
    unfold Channel.released
    split
    · exact r.cancelled_not_filling t
    · next h => exact fun ht => h (r.isFilling_iff.2 ⟨t, ht⟩)
  rw [Channel.examined, hasks, Channel.released]
  split
  · rw [Channel.cancelled_eq]
  · rfl

/-- What the acceptance of DISENGAGE leaves before its end is looked for (spec/10 R202). -/
def State.disengaging (s : State) : State :=
  { s with
    control := { s.control with mode := .disengaging },
    dispatch := { headClass := none, claim := none },
    tiles := Vector.ofFn fun t : Tile => (s.tiles[t]).released,
    fillQueue := [],
    chan0 := s.chan0.released.examined .disengaging s.settings.burstCount,
    chan1 := s.chan1.released.examined .disengaging s.settings.burstCount,
    port := { s.port with running := some .disengage, result := runningRecord .disengage,
                          rangeWalk := none } }

theorem acceptDisengage_eq (s : State) : s.acceptDisengage = s.disengaging.settleDisengage := by
  simp only [State.acceptDisengage, State.disengaging, State.setChan, State.begin, State.dropHead]

/-- DISENGAGE is accepted in ENGAGED and ACTIVE (spec/10 R202). -/
theorem exec_disengage_eq {s : State} (hf : s.FrameOpen) (hr : s.port.running = none)
    (hm : s.control.mode = .engaged) (ha : s.ret.state = .active) :
    exec .disengage s = .next (s.disengaging.settleDisengage.replied 1
      s.disengaging.settleDisengage.longReply) := by
  have hj : s.judgeDisengage = none := by
    simp [State.judgeDisengage, firstFailure, State.modeIs, State.retActive, hm, ha]
  simp only [exec, execDisengage, hj, takeLong_accepted hf _ _ _ (busyFor_of_not_running hr _),
    acceptDisengage_eq, takenByte_disengage]

/-- DISENGAGE ends where both channels are IDLE (spec/10 R203). -/
theorem settleDisengage_eq {s : State} (hm : s.control.mode = .disengaging)
    (h0 : s.chan0.state = .idle) (h1 : s.chan1.state = .idle) :
    s.settleDisengage = s.endDisengage :=
  if_pos ⟨hm, by simp [State.bothIdle, Channel.isIdle, h0, h1]⟩

/-- DISENGAGE goes on where a channel is not IDLE (spec/10 R203). -/
theorem settleDisengage_eq_self {s : State}
    (h : s.control.mode ≠ .disengaging ∨ s.chan0.state ≠ .idle ∨ s.chan1.state ≠ .idle) :
    s.settleDisengage = s := by
  refine if_neg ?_
  rintro ⟨hm, hi⟩
  simp only [State.bothIdle, Channel.isIdle, Bool.and_eq_true, decide_eq_true_eq] at hi
  rcases h with h | h | h
  · exact h hm
  · exact h hi.1
  · exact h hi.2

/-- Settles O57: the acceptance leaves a state whose end is looked for at once. -/
theorem disengageReleasesEveryTile : Obligations.DisengageReleasesEveryTile := by
  intro s
  refine ⟨fun hf hr hm ha => ?_, fun hm h0 h1 => ⟨congrArg _ (settleDisengage_eq hm h0 h1), ?_⟩,
    fun h => congrArg _ (settleDisengage_eq_self h)⟩
  · intro released awaits
    have hrel (r : Channel) :
        r.released.examined .disengaging s.settings.burstCount = released r :=
      Channel.released_examined _ _ r
    refine ⟨Vector.ofFn fun t : Tile => (s.tiles[t]).released, fun t => ?_, fun h => ?_,
      fun h0 h1 => ?_⟩
    · rw [Fin.getElem_fin, Vector.getElem_ofFn]
      show (s.tiles[t]).released = _
      cases s.tiles[t] <;> rfl
    · have hself : s.disengaging.settleDisengage = s.disengaging := by
        refine settleDisengage_eq_self (.inr ?_)
        simp only [State.disengaging, hrel]
        exact h
      rw [exec_disengage_eq hf hr hm ha, hself]
      simp only [State.disengaging, hrel]
      rfl
    · have hend : s.disengaging.settleDisengage = s.disengaging.endDisengage := by
        refine settleDisengage_eq rfl ?_ ?_ <;> simp only [State.disengaging, hrel]
        · exact not_not.1 h0
        · exact not_not.1 h1
      rw [exec_disengage_eq hf hr hm ha, hend, State.endDisengage, settleDrain_of_active]
      · simp only [State.disengaging, hrel]
        rfl
      · exact ha
  · intro ended
    have hend : s.endDisengage = ended.settleDrain := rfl
    refine ⟨fun hd hi => ?_, fun h => ?_⟩
    · rw [hend, settleDrain_eq (s := ended) hd hi (.inl rfl)]
    · rw [hend, settleDrain_eq_self]
      exact h.imp id .inl

/-! ### RESTART -/

/-- In RESTARTING a channel asks for nothing (spec/03 R57, R78). -/
theorem Channel.examined_restarting (n : Nat) (r : Channel) :
    r.examined .restarting n = { r with asks := false } := by
  simp [Channel.examined, Channel.wants]

/-- A drain's start does not read the management port. -/
theorem startDrain_port (s : State) (p : MgmtPort) :
    ({ s with port := p } : State).startDrain = { s.startDrain with port := p } := by
  show (if s.drainDue then _ else _) = _
  unfold State.startDrain
  split <;> rfl

/-- Of the management port, the RESTART clear only ends the running command. -/
theorem clear_port (s : State) (p : MgmtPort) :
    ({ s with port := p } : State).clear = { s.clear with port := p.finish } := by
  unfold State.clear
  rw [← startDrain_port]

/-- The RESTART clear is taken where no tag is IN_USE in RESTARTING (spec/10 R206). -/
theorem settleRestart_eq {s : State} (hm : s.control.mode = .restarting)
    (ht : ∀ t : Tag, (s.tags[t]).isInUse = false) : s.settleRestart = s.clear :=
  if_pos ⟨hm, (noneInUse_iff s).2 ht⟩

/-- The restart waits where a tag is IN_USE (spec/10 R206). -/
theorem settleRestart_eq_self {s : State}
    (h : s.control.mode ≠ .restarting ∨ ∃ t : Tag, (s.tags[t]).isInUse = true) :
    s.settleRestart = s := by
  refine if_neg ?_
  rintro ⟨hm, ht⟩
  rcases h with h | h
  · exact h hm
  · rw [(noneInUse_false_iff s).2 h] at ht
    cases ht

/-- What the acceptance of RESTART leaves before the clear is looked for (spec/10 R204). -/
def State.restarting (s : State) : State :=
  { s with
    control := { mode := .restarting, walk := none },
    dispatch := { headClass := none, claim := none },
    requests := [],
    chan0 := { s.chan0 with asks := false }, chan1 := { s.chan1 with asks := false },
    host := { s.host with
      balance := s.host.balance + s.requests.length,
      outstanding := s.requests.foldl (fun o r => dropTag o r.tag) s.host.outstanding,
      sent := s.host.sent ++ (s.requests.map fun r => .response r.tag .aborted none) ++
        (if s.requests = [] then [] else [.credit s.requests.length]) },
    port := { s.port with running := some .restart, result := runningRecord .restart,
                          rangeWalk := none } }

theorem acceptRestart_eq {s : State} (ho : s.host.owed = 0) :
    s.acceptRestart = s.restarting.settleRestart := by
  unfold State.acceptRestart
  dsimp only
  rw [flush_eq _ _ (by exact ho)]
  simp only [State.examineChans, State.setChan, State.begin, Channel.examined_restarting,
    State.restarting, List.length_eq_zero_iff]

/-- RESTART is accepted in ACTIVE or HALTED with no command running, or over an ADOPT held in HALTED
(spec/05 R123, spec/10 R204). -/
theorem exec_restart_eq {s : State} (hf : s.FrameOpen) (ho : s.host.owed = 0)
    (hr : s.port.running = none ∨ (s.port.running = some .adopt ∧ s.ret.state = .halted))
    (ha : s.ret.state = .active ∨ s.ret.state = .halted) :
    exec .restart s = .next (s.restarting.settleRestart.replied 1
      s.restarting.settleRestart.longReply) := by
  have hb : s.busyFor .restart = false := by
    rcases hr with hr | ⟨hr, hh⟩
    · exact busyFor_of_not_running hr _
    · simp [State.busyFor, hr, hh]
  have hj : s.judgeRestart = none := by
    rcases ha with ha | ha <;> simp [State.judgeRestart, firstFailure, State.retActive, ha]
  simp only [exec, execRestart, hj, takeLong_accepted hf _ _ _ hb, acceptRestart_eq ho,
    takenByte_restart]

/-- Settles O58: the acceptance leaves a state whose clear is looked for at once. -/
theorem restartFlushesAndClears : Obligations.RestartFlushesAndClears := by
  intro s
  refine ⟨fun hf ho hr ha => ?_, fun hm ht => congrArg _ (settleRestart_eq hm ht),
    fun h => congrArg _ (settleRestart_eq_self h), ?_⟩
  · intro stopped
    have hstop : s.restarting = { stopped with port := { s.port with
        running := some .restart, result := runningRecord .restart, rangeWalk := none } } := rfl
    rw [exec_restart_eq hf ho hr ha]
    refine ⟨fun ht => ?_, fun ht => ?_⟩
    · rw [settleRestart_eq_self (s := s.restarting) (.inr ht), hstop]
      rfl
    · rw [settleRestart_eq (s := s.restarting) rfl ht, hstop, clear_port]
      rfl
  · intro idle cleared
    have hclear : s.clear = cleared.startDrain := rfl
    refine ⟨fun hl => ?_, fun hh hr => ?_⟩
    · rw [hclear]
      exact if_neg (by simp [State.drainDue, cleared, hl])
    · rw [hclear, State.startDrain, if_pos (by simp [State.drainDue, cleared, hh, hr])]
      rfl

/-! ### The claims of the range walks -/

/-- The port after a claim of a walk, with the claim counted in record r: the walk stands at the
next tile, or the command is DONE (spec/05 R111). -/
def MgmtPort.counted (p : MgmtPort) (w : RangeWalk) (r : ResultRecord) : MgmtPort :=
  if w.next = w.last then
    { p with running := none, rangeWalk := none, result := { r with outcome := .done } }
  else { p with rangeWalk := some { next := w.next + 1, last := w.last }, result := r }

theorem MgmtPort.advance_eq (p : MgmtPort) (w : RangeWalk) (changed : Bool) :
    p.advance w changed =
      p.counted w (if changed then p.result.countChanged else p.result.countUnchanged) := by
  unfold MgmtPort.advance MgmtPort.counted
  dsimp only
  split <;> rfl

/-- A walk of a running command is the walk of that command. -/
theorem walkOf_eq {s : State} {w : RangeWalk} {c : LongCmd} (hw : s.port.rangeWalk = some w)
    (hr : s.port.running = some c) : s.walkOf c = some w := by
  rw [State.walkOf, if_pos hr, hw]

/-- A discard claim is made on the walk's next tile (spec/05 R111). -/
theorem exec_discardClaim_eq {s : State} {w : RangeWalk} (h : s.Walks .discardClaim w) :
    exec .discardClaim s =
      .next ((s.discardTile w.next).1.advanceWalk w (s.discardTile w.next).2) := by
  obtain ⟨hw, ⟨-, hr⟩ | ⟨hc, -⟩ | ⟨hc, -⟩⟩ := h
  · simp only [exec, execDiscardClaim, walkOf_eq hw hr]
  · cases hc
  · cases hc

/-- A prepare claim is made on the walk's next tile where no take is due (spec/05 R119). -/
theorem exec_prepareClaim_eq {s : State} {w : RangeWalk} (h : s.Walks .prepareClaim w) :
    exec .prepareClaim s =
      .next ((s.prepareTile w.next).1.advanceWalk w (s.prepareTile w.next).2) := by
  obtain ⟨hw, ⟨hc, -⟩ | ⟨-, hr, htake⟩ | ⟨hc, -⟩⟩ := h
  · cases hc
  · simp only [exec, execPrepareClaim, walkOf_eq hw hr, htake, Bool.false_eq_true, if_false]
  · cases hc

/-- An adopt claim is made on the walk's next tile in ACTIVE and DRAINING (spec/04 R105). -/
theorem exec_adoptClaim_eq {s : State} {w : RangeWalk} (h : s.Walks .adoptClaim w) :
    exec .adoptClaim s =
      .next ((s.adoptTile w.next).1.advanceWalk w (s.adoptTile w.next).2) := by
  obtain ⟨hw, ⟨hc, -⟩ | ⟨hc, -⟩ | ⟨-, hr, hst⟩⟩ := h
  · cases hc
  · cases hc
  · have hheld : s.adoptHeld = false := by
      rcases hst with hst | hst <;> simp only [State.adoptHeld, hst]
    simp only [exec, execAdoptClaim, walkOf_eq hw hr, hheld, Bool.false_eq_true, if_false]

/-- Settles O60: each claim by the record it finds, with the port counted by whether it changed. -/
theorem rangeClaimsActByTheStateFound : Obligations.RangeClaimsActByTheStateFound := by
  intro s w t counted changed unchanged
  have hnext {x : TileState} (h : s.tiles[t] = x) : s.tiles[w.next] = x := h
  have hchanged (u : State) (hu : u.port = s.port) :
      u.advanceWalk w true = { u with port := changed } := by
    rw [State.advanceWalk, MgmtPort.advance_eq, hu]
    rfl
  have hunchanged : s.advanceWalk w false = { s with port := unchanged } := by
    rw [State.advanceWalk, MgmtPort.advance_eq]
    rfl
  refine ⟨fun h => ?_, fun h => ?_, fun h => ?_⟩
  · rw [exec_discardClaim_eq h]
    refine ⟨fun ht => ?_, fun ht hn => ?_, fun c ht => ?_, fun ht => ?_, fun ht => ?_⟩
    · simp only [State.discardTile, hnext ht]
      rw [hchanged]
      all_goals rfl
    · simp only [State.discardTile, hnext ht, erase_eq_filter hn]
      rw [hchanged]
      all_goals rfl
    · simp only [State.discardTile, hnext ht]
      rw [hchanged _ (by simp), State.cancel, State.setTile_chan, Channel.cancelled_eq]
      cases c <;> rfl
    · simp only [State.discardTile, hnext ht]
      rw [hchanged]
      all_goals rfl
    · rcases ht with ht | ht <;> simp only [State.discardTile, hnext ht, hunchanged]
  · rw [exec_prepareClaim_eq h]
    refine ⟨fun ht => ?_, fun ht => ?_⟩
    · simp only [State.prepareTile, hnext ht]
      rw [hchanged]
      all_goals rfl
    · have hno : s.prepareTile w.next = (s, false) := by
        unfold State.prepareTile
        split
        · next hv => exact absurd hv ht
        all_goals rfl
      rw [hno, hunchanged]
  · rw [exec_adoptClaim_eq h]
    refine ⟨fun ht => ?_, fun ht hn => ?_, fun ht => ?_⟩
    · rcases ht with ht | ht <;> simp only [State.adoptTile, hnext ht] <;> rw [hchanged] <;> rfl
    · simp only [State.adoptTile, hnext ht, erase_eq_filter hn]
      rw [hchanged]
      all_goals rfl
    · have hno : s.adoptTile w.next = (s, false) := by
        rcases ht with ht | ht | ⟨c, ht⟩ <;> simp only [State.adoptTile, hnext ht]
      rw [hno, hunchanged]

end Sys2Proof.Machine
end

section
/-! Which operations and commands make a tile FILLING: the fill start and the take, and no other
(O13). -/

namespace Sys2Proof.Machine

/-! ### No new FILLING tile -/

/-- Every tile FILLING on a channel in t was FILLING on it in s. -/
def State.NoNewFill (s t : State) : Prop :=
  ∀ (k : Tile) (c : Chan), t.tiles[k] = .filling c → s.tiles[k] = .filling c

theorem State.NoNewFill.of_tiles {s t : State} (h : t.tiles = s.tiles) : s.NoNewFill t := by
  intro k c hk
  rwa [h] at hk

theorem State.NoNewFill.trans {s t u : State} (h : s.NoNewFill t) (h' : t.NoNewFill u) :
    s.NoNewFill u := fun k c hk => h k c (h' k c hk)

/-- A tile that takes a record other than FILLING is no new one. -/
theorem State.NoNewFill.of_set {s t : State} {j : Tile} {x : TileState}
    (h : t.tiles = s.tiles.set j x) (hx : ∀ c, x ≠ .filling c) : s.NoNewFill t := by
  intro k c hk
  rw [h, tiles_set_get] at hk
  split at hk
  · exact absurd hk (hx c)
  · exact hk

/-- Where no tile is tracked, none is FILLING. -/
theorem State.NoNewFill.of_untracked {s t : State} (h : t.tiles = noTiles) : s.NoNewFill t := by
  intro k c hk
  rw [h, noTiles_get] at hk
  cases hk

/-! ### The shared operations -/

theorem State.noNewFill_tryComplete (s : State) (c : Chan) : s.NoNewFill (s.tryComplete c) := by
  rcases tryComplete_cases s c with ⟨t, -, -, -, -, he⟩ | he
  · rw [he]
    exact .of_set (j := t) (x := .live) (by simp) (by simp)
  · rw [he]
    exact .of_tiles rfl

theorem State.noNewFill_handFill (s : State) (c : Chan) (o : Nat) (t : Tag) (ok : Bool) :
    s.NoNewFill (s.handFill c o t ok) := by
  have hignore : s.NoNewFill (s.ignoreFill c o) := .of_tiles (by simp)
  unfold State.handFill
  split
  · exact .of_tiles rfl
  · split
    · exact hignore
    · split
      · exact hignore
      · exact hignore
      · next k _ =>
        split
        · exact .trans (.of_tiles (by simp)) (State.noNewFill_tryComplete _ c)
        · split
          · exact .of_tiles (by simp)
          · unfold State.failTile
            split
            · exact .of_set (j := k) (x := .failed) (by simp) (by simp)
            · exact .of_tiles rfl

theorem State.noNewFill_completeDrain (s : State) : s.NoNewFill s.completeDrain := by
  intro k c hk
  rw [State.completeDrain_tiles, dropTiles_get] at hk
  split at hk
  · cases hk
  · exact hk

theorem State.noNewFill_settleDrain (s : State) : s.NoNewFill s.settleDrain := by
  rcases settleDrain_cases s with ⟨-, -, -, he⟩ | ⟨-, he⟩ <;> rw [he]
  · exact s.noNewFill_completeDrain
  · exact .of_tiles rfl

theorem State.noNewFill_settleDisengage (s : State) : s.NoNewFill s.settleDisengage := by
  unfold State.settleDisengage
  split
  · exact .trans (.of_untracked rfl) (State.noNewFill_settleDrain _)
  · exact .of_tiles rfl

theorem State.noNewFill_settleRestart (s : State) : s.NoNewFill s.settleRestart := by
  unfold State.settleRestart
  split
  · exact .of_untracked (by simp [State.clear])
  · exact .of_tiles rfl

theorem State.noNewFill_settleTag (s : State) : s.NoNewFill s.settleTag := by
  unfold State.settleTag
  split
  · exact s.noNewFill_settleRestart
  · exact s.noNewFill_settleDisengage
  · exact s.noNewFill_settleDrain
  · exact s.noNewFill_settleDrain
  · exact .of_tiles rfl

/-! ### Operations that leave every tile -/

@[simp] theorem State.flush_tiles (s : State) (st : HostStatus) : (s.flush st).tiles = s.tiles :=
  congrArg Prod.fst (s.tracked_flush st)

theorem State.handArrival_tiles (s : State) (r : HostRequest) :
    (s.handArrival r).tiles = s.tiles := by
  unfold State.handArrival
  split
  · rfl
  · rfl
  · rfl
  · split <;> rfl
  · split <;> rfl
  · rfl

theorem State.receive_tiles (s : State) (r : HostRequest) : (s.receive r).tiles = s.tiles := by
  unfold State.receive
  dsimp only
  split
  · rfl
  · exact State.handArrival_tiles _ r

@[simp] theorem State.answerHead_tiles (s : State) (r : HostRequest) (st : HostStatus)
    (data : Option Burst) (n : Option Notice) : (s.answerHead r st data n).tiles = s.tiles := by
  cases n <;> rfl

@[simp] theorem State.makeClaim_tiles (s : State) (c : DispatchClaim) :
    (s.makeClaim c).tiles = s.tiles := by
  cases c <;> rfl

theorem State.settleHead_tiles (s : State) (r : HostRequest) (d : Decision) :
    (s.settleHead r d).tiles = s.tiles := by
  cases d <;> simp [State.settleHead]

theorem State.grantChan_tiles (s : State) (c : Chan) (tag : Tag) :
    (s.grantChan c tag).tiles = s.tiles := by
  unfold State.grantChan State.reissueRetry State.issueCursor
  split
  · split
    · simp
    · split
      · rw [State.setChan_tiles]; rfl
      · split
        · rw [State.setChan_tiles]; rfl
        · simp
  · simp
  · simp

theorem State.slpFell_tiles (s : State) : s.slpFell.tiles = s.tiles := by
  unfold State.slpFell
  cases s.ret.state <;> rfl

theorem State.raiseSelect_tiles (s : State) : s.raiseSelect.tiles = s.tiles := by
  unfold State.raiseSelect
  split <;> rfl

theorem State.reachDirective_tiles (s : State) : s.reachDirective.tiles = s.tiles := by
  unfold State.reachDirective
  split <;> rfl

/-! ### The commands -/

/-- A command taken from a frame makes no more tiles FILLING than its event. -/
theorem State.NoNewFill.takeCommand {s after : State} (h : s.NoNewFill after) (t : Nat)
    (reply : List Byte) : s.NoNewFill (s.takeCommand t after reply) := by
  unfold State.takeCommand
  split
  · exact h.trans (.of_tiles rfl)
  · exact .of_tiles rfl

/-- A long command makes no more tiles FILLING than its acceptance. -/
theorem State.NoNewFill.takeLong {s accepted : State} (h : s.NoNewFill accepted) (c : LongCmd)
    (t : Nat) (why : Option Reason) : s.NoNewFill (s.takeLong c t why accepted) := by
  unfold State.takeLong
  split
  · split
    · exact .of_tiles rfl
    · refine State.NoNewFill.takeCommand ?_ t _
      split
      · exact .of_tiles rfl
      · exact h
  · exact .of_tiles rfl

/-- A done message makes no more tiles FILLING than its match. -/
theorem State.noNewFill_takeDone (s : State) (wanted : RetState) {matched : State → State}
    (h : ∀ u : State, (matched u).tiles = u.tiles) : s.NoNewFill (s.takeDone wanted matched) := by
  unfold State.takeDone
  split
  · dsimp only
    split
    · exact s.noNewFill_settleDrain.trans (.of_tiles (h _))
    · exact s.noNewFill_settleDrain.trans (.of_tiles rfl)
  · exact .of_tiles rfl

theorem State.noNewFill_takeResponse (s : State) (t : Tag) (st : MemStatus) (data : Burst) :
    s.NoNewFill (s.takeResponse t st data) := by
  unfold State.takeResponse
  split
  · exact .of_tiles rfl
  · exact .of_tiles rfl
  · exact .trans (.of_tiles (by simp)) (State.noNewFill_settleTag _)
  · exact (State.NoNewFill.of_tiles (State.setTag_tiles ..)).trans
      ((State.noNewFill_handFill _ _ _ _ _).trans (State.noNewFill_settleTag _))

theorem State.noNewFill_grantHead (s : State) (r : HostRequest) (t : Tag) :
    s.NoNewFill (s.grantHead r t) := by
  unfold State.grantHead
  split
  · next how _ =>
    obtain ⟨tags, l, he⟩ := s.passHead_issue_eq t
      (.host r.body.kind (burstAddr r.addr) r.tag how.link) (burstAddr r.addr)
      (how.body s.settings r.body)
    rw [State.issueHead, he]
    cases how with
    | plain => exact .of_tiles rfl
    | writeClaim j => exact .of_set (j := j) (x := .live) rfl (by simp)
    | reissue c o => exact .of_tiles (by simp [State.issueEffect])
    | insert c o => exact .of_tiles (by simp [State.issueEffect])
  · exact .of_tiles (by simp)
  · exact .of_tiles rfl
  · exact .of_tiles (by simp)

theorem State.noNewFill_discardTile (s : State) (t : Tile) : s.NoNewFill (s.discardTile t).1 := by
  unfold State.discardTile
  split
  · exact .of_set (j := t) (x := .discarded) rfl (by simp)
  · exact .of_set (j := t) (x := .void) rfl (by simp)
  · exact .of_set (j := t) (x := .void) (by simp) (by simp)
  · exact .of_set (j := t) (x := .void) rfl (by simp)
  all_goals exact .of_tiles rfl

theorem State.noNewFill_prepareTile (s : State) (t : Tile) : s.NoNewFill (s.prepareTile t).1 := by
  unfold State.prepareTile
  split
  · exact .of_set (j := t) (x := .queued) rfl (by simp)
  all_goals exact .of_tiles rfl

theorem State.noNewFill_adoptTile (s : State) (t : Tile) : s.NoNewFill (s.adoptTile t).1 := by
  unfold State.adoptTile
  split
  · exact .of_set (j := t) (x := .live) rfl (by simp)
  · exact .of_set (j := t) (x := .live) rfl (by simp)
  · exact .of_set (j := t) (x := .live) rfl (by simp)
  all_goals exact .of_tiles rfl

theorem State.noNewFill_claimEngage (s : State) (w : EngageWalk) :
    s.NoNewFill (s.claimEngage w) := by
  have hplain := w.option.tileState_plain
  rw [TileState.plain_iff] at hplain
  exact .of_set (j := w.pos) (x := w.option.tileState) rfl hplain.2.2

/-- A tile that DISENGAGE releases is not FILLING. -/
theorem State.noNewFill_acceptDisengage (s : State) : s.NoNewFill s.acceptDisengage := by
  obtain ⟨u, he, -, ht, -⟩ := s.acceptDisengage_parts
  rw [he]
  refine State.NoNewFill.trans (fun k c hk => ?_) u.noNewFill_settleDisengage
  rw [ht] at hk
  cases hs : s.tiles[k] <;> rw [hs] at hk <;> cases hk

theorem State.noNewFill_acceptRestart (s : State) : s.NoNewFill s.acceptRestart :=
  .trans (.of_tiles (by simp [State.begin])) (State.noNewFill_settleRestart _)

/-- No command but the fill start and the take makes a tile FILLING. -/
theorem exec_noNewFill {s t : State} {i : Instr} (he : exec i s = .next t) (hstart : i ≠ .fillStart)
    (htake : ∀ c, i ≠ .take c) : s.NoNewFill t := by
  have hself : s.NoNewFill s := .of_tiles rfl
  cases i with
  | fillStart => exact absurd rfl hstart
  | take c => exact absurd rfl (htake c)
  | status | result | get _ | set _ _ | readTile _ | readChannel _ | takeNotice =>
    refine next_inj (P := s.NoNewFill) (.takeCommand ?_ _ _) he
    exact .of_tiles rfl
  | frameAbandon | frameEnd =>
    exact next_inj (P := s.NoNewFill) (.of_tiles s.raiseSelect_tiles) he
  | hostLinkUp | memoryLinkUp | credit _ | unknownCommand _ =>
    refine next_inj (P := s.NoNewFill) ?_ he
    split <;> exact .of_tiles rfl
  | request r =>
    refine next_inj (P := s.NoNewFill) ?_ he
    split
    · split
      · exact .of_tiles rfl
      · exact .of_tiles (s.receive_tiles r)
    · exact hself
  | response w st data =>
    refine next_inj (P := s.NoNewFill) ?_ he
    split
    · split
      · exact s.noNewFill_takeResponse _ st data
      · exact .of_tiles rfl
    · exact hself
  | responseTimeout tag =>
    refine next_inj (P := s.NoNewFill) ?_ he
    split
    · split
      · exact .trans (.of_tiles (by simp)) (State.noNewFill_settleTag _)
      · exact hself
    all_goals exact hself
  | fillWriteTimeout tag =>
    refine next_inj (P := s.NoNewFill) ?_ he
    split
    · split
      · refine .trans (.trans ?_ (State.noNewFill_handFill _ _ _ tag false))
          (State.noNewFill_settleTag _)
        exact .of_tiles rfl
      · exact hself
    all_goals exact hself
  | enterDone =>
    refine next_inj (P := s.NoNewFill) (s.noNewFill_takeDone _ fun u => ?_) he
    unfold State.entered
    dsimp only
    split <;> rfl
  | exitDone =>
    refine next_inj (P := s.NoNewFill) (s.noNewFill_takeDone _ fun u => ?_) he
    simp [State.exited]
  | entryTimeout | exitTimeout =>
    refine next_inj (P := s.NoNewFill) ?_ he
    split
    · exact .of_tiles (by simpa using s.reachDirective_tiles)
    · exact hself
  | halt =>
    refine next_inj (P := s.NoNewFill) ?_ he
    split
    · exact .of_tiles (by simpa [State.halted] using s.reachDirective_tiles)
    · exact hself
  | slpReqRise =>
    refine next_inj (P := s.NoNewFill) ?_ he
    split
    · exact hself
    · exact .of_tiles (by simp)
  | slpReqFall =>
    refine next_inj (P := s.NoNewFill) ?_ he
    split
    · exact .of_tiles s.slpFell_tiles
    · exact hself
  | drainCompletion => exact next_inj (P := s.NoNewFill) s.noNewFill_settleDrain he
  | hardReset => exact next_inj (P := s.NoNewFill) (.of_untracked rfl) he
  | hardResetEnd =>
    refine next_inj (P := s.NoNewFill) ?_ he
    split
    · exact .of_tiles (by simp)
    · exact hself
  | headClassification =>
    refine next_inj (P := s.NoNewFill) ?_ he
    split
    · exact hself
    · split
      · exact .of_tiles (s.settleHead_tiles _ _)
      · exact hself
  | queueAtHead =>
    refine next_inj (P := s.NoNewFill) ?_ he
    split
    · next j _ =>
      split
      · unfold State.takeQueueAtHead
        split
        · exact .of_set (j := j) (x := .queued) rfl (by simp)
        · exact .of_tiles rfl
      · exact hself
    all_goals exact hself
  | promotion =>
    refine next_inj (P := s.NoNewFill) ?_ he
    split
    · split
      · split <;> exact .of_tiles rfl
      · exact hself
    all_goals exact hself
  | headGrant =>
    refine next_inj (P := s.NoNewFill) ?_ he
    split
    · split
      · exact s.noNewFill_grantHead _ _
      · exact hself
    all_goals exact hself
  | channelGrant c =>
    refine next_inj (P := s.NoNewFill) ?_ he
    split
    · split
      · exact .of_tiles (s.grantChan_tiles c _)
      · exact hself
    · exact hself
  | cursorStep c =>
    refine next_inj (P := s.NoNewFill) ?_ he
    split
    · split
      · exact .trans (.of_tiles (by simp)) (State.noNewFill_tryComplete _ c)
      · exact hself
    · exact hself
  | engage option =>
    refine next_inj (P := s.NoNewFill) (.takeLong ?_ _ _ _) he
    unfold State.acceptEngage
    split <;> exact .of_tiles rfl
  | engageWalkClaim =>
    refine next_inj (P := s.NoNewFill) ?_ he
    split
    · exact hself
    · next w _ =>
      split
      · split
        · exact (s.noNewFill_claimEngage w).trans
            (.trans (.of_tiles rfl) (State.noNewFill_settleDrain _))
        · exact (s.noNewFill_claimEngage w).trans (.of_tiles rfl)
      · exact hself
  | disengage =>
    exact next_inj (P := s.NoNewFill) (.takeLong s.noNewFill_acceptDisengage _ _ _) he
  | disengageEnd => exact next_inj (P := s.NoNewFill) s.noNewFill_settleDisengage he
  | restart => exact next_inj (P := s.NoNewFill) (.takeLong s.noNewFill_acceptRestart _ _ _) he
  | restartClear => exact next_inj (P := s.NoNewFill) s.noNewFill_settleRestart he
  | discard _ _ | prepare _ _ | adopt _ _ =>
    refine next_inj (P := s.NoNewFill) (.takeLong ?_ _ _ _) he
    exact .of_tiles rfl
  | discardClaim =>
    refine next_inj (P := s.NoNewFill) ?_ he
    split
    · exact hself
    · exact (s.noNewFill_discardTile _).trans (.of_tiles rfl)
  | prepareClaim =>
    refine next_inj (P := s.NoNewFill) ?_ he
    split
    · exact hself
    · split
      · exact hself
      · exact (s.noNewFill_prepareTile _).trans (.of_tiles rfl)
  | adoptClaim =>
    refine next_inj (P := s.NoNewFill) ?_ he
    split
    · exact hself
    · split
      · exact hself
      · exact (s.noNewFill_adoptTile _).trans (.of_tiles rfl)
  | frameBegin =>
    refine next_inj (P := s.NoNewFill) ?_ he
    split
    · exact hself
    · dsimp only
      split <;> exact .of_tiles rfl

/-! ### The fill start and the take -/

/-- The one tile that a start makes FILLING, with its channel FILLING on it (spec/03 R48). -/
theorem startFill_newFill {s t : State} {j k : Tile} {c d : Chan}
    (ht : t.tiles = (s.startFill j d).tiles) (hc : t.chan d = (s.startFill j d).chan d)
    (hold : s.tiles[k] ≠ .filling c) (hnew : t.tiles[k] = .filling c) :
    k = j ∧ (t.chan c).state = .filling k := by
  rw [ht, State.startFill, State.setChan_tiles, State.setTile_get] at hnew
  split at hnew
  · next hk =>
    cases hnew
    refine ⟨hk, ?_⟩
    rw [hc, State.startFill, State.setChan_chan, hk]
    rfl
  · exact absurd hnew hold

/-- A fill start that arrives starts its tile from VOID, or makes none FILLING (spec/01 R8). -/
theorem execFillStart_cases {s t : State} (he : exec .fillStart s = .next t) :
    t.tiles = s.tiles ∨
      ∃ j d, s.tiles[j] = .void ∧ t = (s.startFill j d).dropHead := by
  refine next_inj (P := fun u => u.tiles = s.tiles ∨
    ∃ j d, s.tiles[j] = .void ∧ u = (s.startFill j d).dropHead) ?_ he
  split
  · next j c _ =>
    split
    · split
      · next hj =>
        split
        · exact .inr ⟨j, c, hj, rfl⟩
        · split
          · exact .inr ⟨j, otherChan c, hj, rfl⟩
          · exact .inl (by simp)
      · exact .inl rfl
    · exact .inl rfl
  all_goals exact .inl rfl

/-- A take starts the QUEUED head of the Fill Queue, or makes none FILLING (spec/01 R11). -/
theorem execTake_cases {s t : State} {c : Chan} (he : exec (.take c) s = .next t) :
    t = s ∨ ∃ j rest, s.tiles[j] = .queued ∧ t = { s.startFill j c with fillQueue := rest } := by
  refine next_inj (P := fun u => u = s ∨ ∃ j rest, s.tiles[j] = .queued ∧
    u = { s.startFill j c with fillQueue := rest }) ?_ he
  split
  · exact .inl rfl
  · next j rest _ =>
    split
    · next h => exact .inr ⟨j, rest, h.2, rfl⟩
    · exact .inl rfl

/-- Settles O13: the fill start and the take are the only two ways into FILLING. -/
theorem tileBecomesFillingOnlyByStartOrTake : Obligations.TileBecomesFillingOnlyByStartOrTake := by
  intro i s t k c he hold hnew
  by_cases hstart : i = .fillStart
  · subst hstart
    rcases execFillStart_cases he with ht | ⟨j, d, hj, rfl⟩
    · rw [ht] at hnew
      exact absurd hnew hold
    · obtain ⟨rfl, hchan⟩ := startFill_newFill (State.dropHead_tiles _) (State.dropHead_chan _ _)
        hold hnew
      exact ⟨hchan, .inl ⟨rfl, hj⟩⟩
  · by_cases htake : ∃ d, i = .take d
    · obtain ⟨d, rfl⟩ := htake
      rcases execTake_cases he with rfl | ⟨j, rest, hj, rfl⟩
      · exact absurd hnew hold
      · obtain ⟨rfl, hchan⟩ := startFill_newFill (s := s) (d := d) rfl (State.chan_congr rfl rfl d)
          hold hnew
        exact ⟨hchan, .inr ⟨d, rfl, hj⟩⟩
    · exact absurd (exec_noNewFill he hstart (fun d hd => htake ⟨d, hd⟩) k c hnew) hold

end Sys2Proof.Machine
end

section
/-! The retention law (spec/02 R26, spec/03 R49, spec/04 R91): what it reads, and one rule for each
shared operation. -/

namespace Sys2Proof.Machine

/-! ### The parts of the law -/

/-- What the retention law reads: the tiles, the dispatch unit, the pause flags, the Tag Pool, the
mode, the retention state and the kept sets. -/
def State.retentionView (s : State) :
    Vector TileState 128 × DispatchUnit × Bool × Bool × Vector TagEntry 48 × Mode × RetState ×
      LaneSet × BandSet :=
  (s.tiles, s.dispatch, s.chan0.paused, s.chan1.paused, s.tags, s.control.mode, s.ret.state,
    s.ret.keptLanes, s.ret.keptBands)

/-- The pause flags of two states agree channel by channel where they agree on both. -/
theorem State.paused_congr {s t : State} (h0 : t.chan0.paused = s.chan0.paused)
    (h1 : t.chan1.paused = s.chan1.paused) (c : Chan) :
    (t.chan c).paused = (s.chan c).paused := by
  cases c
  · exact h0
  · exact h1

/-- Fewer tags IN_USE and fewer tiles that count keep the law, where the dispatch unit is as it was
or empty. -/
theorem State.RetentionLaw.shrink {s t : State} (h : s.RetentionLaw)
    (hp : ∀ c, (t.chan c).paused = (s.chan c).paused) (hm : t.control.mode = s.control.mode)
    (hs : t.ret.state = s.ret.state) (hl : t.ret.keptLanes = s.ret.keptLanes)
    (hb : t.ret.keptBands = s.ret.keptBands)
    (hd : t.dispatch = s.dispatch ∨ t.dispatch = { headClass := none, claim := none })
    (hu : s.noneInUse = true → t.noneInUse = true)
    (hk : ∀ k : Tile, (t.tiles[k]).counts = true → (s.tiles[k]).counts = true) :
    t.RetentionLaw := by
  obtain ⟨hpaused, hdisp, htags, hkept⟩ := h
  have hrun : t.dispatchRuns = s.dispatchRuns := by
    simp only [State.dispatchRuns, hm, hs]
  refine ⟨fun c => ?_, fun hr => ?_, fun hper => ?_, fun hper => ?_⟩
  · rw [hp, hs, hpaused]
  · rcases hd with hd | hd
    · rw [hd]
      exact hdisp (hrun ▸ hr)
    · exact hd
  · rw [hs] at hper
    exact hu (htags hper)
  · rw [hs] at hper
    obtain ⟨hset, htile⟩ := hkept hper
    rw [hm, hl, hb]
    exact ⟨hset, fun k hc => htile k (hk k hc)⟩

/-- The law reads nothing but its view. -/
theorem State.RetentionLaw.congr {s t : State} (h : s.RetentionLaw)
    (he : t.retentionView = s.retentionView) : t.RetentionLaw := by
  simp only [State.retentionView, Prod.mk.injEq] at he
  obtain ⟨ht, hd, h0, h1, hu, hm, hs, hl, hb⟩ := he
  refine h.shrink (State.paused_congr h0 h1) hm hs hl hb (.inl hd) ?_ ?_
  · simp only [State.noneInUse, hu, imp_self]
  · simp only [ht, imp_self, implies_true]

/-- Outside a period and HALTED the law is about the pause flags and the dispatch unit. -/
theorem State.retentionLaw_of_awake {s : State}
    (hs : s.ret.state = .active ∨ s.ret.state = .draining)
    (hp : ∀ c, (s.chan c).paused = (s.ret.state != .active))
    (hd : s.dispatchRuns = false → s.dispatch = { headClass := none, claim := none }) :
    s.RetentionLaw := by
  refine ⟨hp, hd, fun h => ?_, fun h => ?_⟩
  · rcases hs with hs | hs <;> simp [hs, RetState.inPeriod] at h
  · rcases hs with hs | hs <;> simp [hs, RetState.inPeriod] at h

/-- In ACTIVE the law asks that no channel is paused and a suspended dispatch unit is empty. -/
theorem State.retentionLaw_of_active {s : State} (hs : s.ret.state = .active)
    (hp : ∀ c, (s.chan c).paused = false)
    (hd : s.dispatchRuns = false → s.dispatch = { headClass := none, claim := none }) :
    s.RetentionLaw :=
  retentionLaw_of_awake (.inl hs) (by simp [hs, hp]) hd

/-- A channel is paused exactly outside ACTIVE. -/
theorem State.RetentionLaw.paused_eq {s : State} (h : s.RetentionLaw) (c : Chan) :
    (s.chan c).paused = (s.ret.state != .active) := by
  obtain ⟨hp, -⟩ := h
  exact hp c

/-- A channel that is not paused tells that the state is ACTIVE. -/
theorem State.RetentionLaw.active_of_unpaused {s : State} (h : s.RetentionLaw) {c : Chan}
    (hc : (s.chan c).paused = false) : s.ret.state = .active := by
  simpa [hc] using h.paused_eq c

/-- While dispatch does not run its unit is empty. -/
theorem State.RetentionLaw.dispatch_empty {s : State} (h : s.RetentionLaw)
    (hr : s.dispatchRuns = false) : s.dispatch = { headClass := none, claim := none } := by
  obtain ⟨-, hd, -⟩ := h
  exact hd hr

/-- Outside ACTIVE dispatch does not run, and its unit is empty. -/
theorem State.RetentionLaw.dispatch_empty_of_ne {s : State} (h : s.RetentionLaw)
    (hs : s.ret.state ≠ .active) : s.dispatch = { headClass := none, claim := none } :=
  h.dispatch_empty (by simp [State.dispatchRuns, hs])

/-- In a period the mode has settled. -/
theorem State.RetentionLaw.settled {s : State} (h : s.RetentionLaw)
    (hs : s.ret.state.inPeriod = true) : s.control.mode.settled = true := by
  obtain ⟨-, -, -, hk⟩ := h
  exact (hk hs).1

/-- The pause flags, the retention state and the mode. -/
def State.pauseView (s : State) : Bool × Bool × RetState × Mode :=
  (s.chan0.paused, s.chan1.paused, s.ret.state, s.control.mode)

/-- In ACTIVE and DRAINING the law is kept by all that leaves the pause flags, the mode and the
retention state, and the dispatch unit where dispatch does not run. -/
theorem State.RetentionLaw.of_awake {s t : State} (h : s.RetentionLaw)
    (hs : s.ret.state = .active ∨ s.ret.state = .draining) (he : t.pauseView = s.pauseView)
    (hd : s.dispatchRuns = true ∨ t.dispatch = s.dispatch) : t.RetentionLaw := by
  simp only [State.pauseView, Prod.mk.injEq] at he
  obtain ⟨h0, h1, hst, hm⟩ := he
  have hrun : t.dispatchRuns = s.dispatchRuns := by
    simp only [State.dispatchRuns, hm, hst]
  refine retentionLaw_of_awake (by rwa [hst]) (fun c => ?_) fun hr => ?_
  · rw [State.paused_congr h0 h1, h.paused_eq, hst]
  · rw [hrun] at hr
    rcases hd with hd | hd
    · rw [hr] at hd
      cases hd
    · rw [hd]
      exact h.dispatch_empty hr

/-- While dispatch runs the law is kept by all that leaves the pause flags, the mode and the
retention state. -/
theorem State.RetentionLaw.of_running {s t : State} (h : s.RetentionLaw)
    (hr : s.dispatchRuns = true) (he : t.pauseView = s.pauseView) : t.RetentionLaw :=
  h.of_awake (.inl ((dispatchRuns_iff s).1 hr).2) he (.inl hr)

/-- Outside a period the law is kept by a change of the tiles, the mode and the port that leaves the
dispatch unit empty. -/
theorem State.RetentionLaw.of_not_inPeriod {s t : State} (h : s.RetentionLaw)
    (hs : s.ret.state.inPeriod = false) (hd : t.dispatch = { headClass := none, claim := none })
    (hp : ∀ c, (t.chan c).paused = (s.chan c).paused) (hr : t.ret = s.ret)
    (hu : t.tags = s.tags) : t.RetentionLaw := by
  obtain ⟨hpaused, -, htags, -⟩ := h
  refine ⟨fun c => ?_, fun _ => hd, fun hs' => ?_, fun hs' => ?_⟩
  · rw [hp, hr, hpaused]
  · rw [hr] at hs'
    simpa only [State.noneInUse, hu] using htags hs'
  · rw [hr, hs] at hs'
    cases hs'

/-- Within a period the law is kept by a change of the retention state to another of a period, or to
HALTED, with the kept sets as they are. -/
theorem State.RetentionLaw.setRet {s : State} (h : s.RetentionLaw)
    (hs : s.ret.state.inPeriod = true) {r : Retention}
    (hr : r.state.inPeriod = true ∨ r.state = .halted) (hl : r.keptLanes = s.ret.keptLanes)
    (hb : r.keptBands = s.ret.keptBands) : ({ s with ret := r } : State).RetentionLaw := by
  have hne : s.ret.state ≠ .active := by
    intro he
    simp [he, RetState.inPeriod] at hs
  have hne' : r.state ≠ .active := by
    intro he
    simp [he, RetState.inPeriod] at hr
  have hempty := h.dispatch_empty_of_ne hne
  obtain ⟨hp, -, hu, hk⟩ := h
  refine ⟨fun c => ?_, fun _ => hempty, fun _ => hu (.inl hs), fun _ => ?_⟩
  · refine (hp c).trans ?_
    rw [bne_iff_ne.2 hne, bne_iff_ne.2 hne']
  · show s.control.mode.settled = true ∧
      ∀ t : Tile, (s.tiles[t]).counts = true → keptTile r.keptLanes r.keptBands t = true
    rw [hl, hb]
    exact hk hs

/-! ### Operations on one tile, tag or channel -/

/-- A tile takes a record that counts only where the one it held did. -/
theorem State.RetentionLaw.setTile {s : State} (h : s.RetentionLaw) {t : Tile} {x : TileState}
    (hx : x.counts = true → (s.tiles[t]).counts = true) : (s.setTile t x).RetentionLaw := by
  refine h.shrink (fun c => by simp) rfl rfl rfl rfl (.inl rfl) id fun k hk => ?_
  rw [State.setTile_get] at hk
  split at hk
  · next he => subst he; exact hx hk
  · exact hk

/-- A tag takes an entry that is not IN_USE. -/
theorem State.RetentionLaw.setTag {s : State} (h : s.RetentionLaw) (t : Tag) {e : TagEntry}
    (he : e.isInUse = false) : (s.setTag t e).RetentionLaw := by
  refine h.shrink (fun c => by simp) rfl rfl rfl rfl (.inl rfl) (fun hu => ?_) fun _ hk => hk
  rw [noneInUse_iff] at hu ⊢
  intro k
  rw [State.setTag_tags, Fin.getElem_fin, Vector.getElem_set]
  split
  · exact he
  · exact hu k

/-- A channel takes a record with its pause flag. -/
theorem State.RetentionLaw.setChan {s : State} (h : s.RetentionLaw) (c : Chan) {r : Channel}
    (hr : r.paused = (s.chan c).paused) : (s.setChan c r).RetentionLaw := by
  refine h.shrink (fun k => ?_) (by simp) (by simp) (by simp) (by simp) (.inl (by simp)) ?_ ?_
  · rw [State.setChan_get]
    split
    · next hk => subst hk; exact hr
    · rfl
  · simp [State.noneInUse]
  · simp

@[simp] theorem Channel.settled_paused (r : Channel) : r.settled.paused = r.paused := by
  unfold Channel.settled
  split <;> rfl

@[simp] theorem Channel.cancelled_paused (r : Channel) : r.cancelled.paused = r.paused := by
  simp [Channel.cancelled]

theorem State.RetentionLaw.dropHead {s : State} (h : s.RetentionLaw) : s.dropHead.RetentionLaw :=
  h.shrink (fun c => by simp) rfl rfl rfl rfl (.inr rfl) id fun _ => id

theorem State.RetentionLaw.post {s : State} (h : s.RetentionLaw) (n : Notice) :
    (s.post n).RetentionLaw := h.congr rfl

theorem State.RetentionLaw.respond {s : State} (h : s.RetentionLaw) (t : HostTag) (st : HostStatus)
    (d : Option Burst) : (s.respond t st d).RetentionLaw := h.congr rfl

theorem State.RetentionLaw.reach {s : State} (h : s.RetentionLaw) (d : Micros) :
    (s.reach d).RetentionLaw := h.congr rfl

theorem State.RetentionLaw.setFrame {s : State} (h : s.RetentionLaw) (f : Option Frame) :
    (s.setFrame f).RetentionLaw := h.congr rfl

/-- A flush leaves the dispatch unit empty, and of the law's view nothing else changes. -/
theorem State.flush_retentionView (s : State) (st : HostStatus) :
    (s.flush st).retentionView = s.dropHead.retentionView := by
  simp only [State.flush, respondAll_eq]
  rfl

theorem State.RetentionLaw.flush {s : State} (h : s.RetentionLaw) (st : HostStatus) :
    (s.flush st).RetentionLaw :=
  h.dropHead.congr (s.flush_retentionView st)

/-! ### The Fill Engine -/

theorem State.RetentionLaw.handSkip {s : State} (h : s.RetentionLaw) (l : Option SkipLink) (t : Tag)
    (ok : Bool) : (s.handSkip l t ok).RetentionLaw := by
  cases l with
  | none => exact h
  | some l => exact h.setChan l.chan rfl

/-- A tile that completes was FILLING, and counted (spec/03 R67). -/
theorem State.RetentionLaw.tryComplete {s : State} (h : s.RetentionLaw) (c : Chan) :
    (s.tryComplete c).RetentionLaw := by
  rcases tryComplete_cases s c with ⟨t, -, ht, -, -, he⟩ | he
  · rw [he]
    have htile : (s.setTile t .live).RetentionLaw := h.setTile fun _ => by rw [ht]; rfl
    exact (htile.setChan c (by simp [Channel.finished])).post _
  · rwa [he]

theorem State.RetentionLaw.failTile {s : State} (h : s.RetentionLaw) (c : Chan) (t : Tile)
    (o : Nat) : (s.failTile c t o).RetentionLaw := by
  unfold State.failTile
  split
  · have htile : (s.setTile t .failed).RetentionLaw := h.setTile fun hx => by cases hx
    exact (htile.setChan c (by simp)).post _
  · exact h

/-- The outcome of a fill write keeps the law (spec/03 R61, R62, R65, R66, R78). -/
theorem State.RetentionLaw.handFill {s : State} (h : s.RetentionLaw) (c : Chan) (o : Nat) (t : Tag)
    (ok : Bool) : (s.handFill c o t ok).RetentionLaw := by
  have hignore : (s.ignoreFill c o).RetentionLaw := h.setChan c (by simp)
  unfold State.handFill
  split
  · exact h
  · split
    · exact hignore
    · split
      · exact hignore
      · exact hignore
      · split
        · exact (h.setChan c (r := { s.chan c with inFlight := dropFlight o _ }) rfl).tryComplete c
        · split
          · exact (h.setChan c
              (r := { s.chan c with inFlight := setFlight o .second .retryWait _ }) rfl).post _
          · exact h.failTile c _ o

/-! ### Drains, the end of DISENGAGE and the RESTART clear -/

/-- A drain's start pauses the channels and empties the dispatch unit (spec/04 R84). -/
theorem State.RetentionLaw.startDrain {s : State} (h : s.RetentionLaw) :
    s.startDrain.RetentionLaw := by
  unfold State.startDrain
  split
  · exact State.retentionLaw_of_awake (.inr rfl) (fun c => by cases c <;> rfl) fun _ => rfl
  · exact h

/-- A tile that counts lies in a census's kept product (spec/04 R89). -/
theorem census_keeps {s : State} {t : Tile} (ht : (s.tiles[t]).counts = true) :
    keptTile s.censusLanes s.censusBands t = true := by
  have hlt := t.isLt
  have hlane : t.val % 8 < 8 := Nat.mod_lt _ (by decide)
  have hband : t.val / 8 < 16 := by omega
  rw [TileState.counts_iff] at ht
  rw [keptTile, laneOf_val, bandOf_val, State.censusLanes, State.censusBands]
  by_cases hm : s.control.mode = .bypass
  · rw [if_pos hm, if_pos hm, BitVec.getLsbD_allOnes, BitVec.getLsbD_allOnes,
      decide_eq_true hlane, decide_eq_true hband, Bool.and_self]
  · rw [if_neg hm, if_neg hm, BitVec.getLsbD_or, BitVec.getLsbD_or,
      memberBits_getLsbD _ _ _ hlane, memberBits_getLsbD _ _ _ hband,
      (laneCounts_iff s _).2 ⟨t, rfl, ht⟩, (bandCounts_iff s _).2 ⟨t, rfl, ht⟩, Bool.or_true,
      Bool.or_true, Bool.and_self]

/-- After the drop a tile counts only where it did before (spec/01 R15). -/
theorem counts_of_dropTiles {lanes : LaneSet} {bands : BandSet} {v : Vector TileState 128}
    {t : Tile} (h : ((dropTiles lanes bands v)[t]).counts = true) : (v[t]).counts = true := by
  rw [dropTiles_get] at h
  split at h
  · cases h
  · exact h

/-- Drain completion enters a period: no tag is IN_USE, and the census keeps what counts
(spec/04 R90, R91). -/
theorem State.RetentionLaw.completeDrain {s : State} (h : s.RetentionLaw)
    (hs : s.ret.state = .draining) (hu : ∀ t : Tag, (s.tags[t]).isInUse = false)
    (hm : s.control.mode.settled = true) : s.completeDrain.RetentionLaw := by
  refine ⟨fun c => ?_, fun _ => ?_, fun _ => ?_, fun _ => ⟨by simpa using hm, fun t ht => ?_⟩⟩
  · rw [State.completeDrain_chan, h.paused_eq, hs]
    rfl
  · rw [State.completeDrain_dispatch]
    exact h.dispatch_empty_of_ne (by simp [hs])
  · simpa [noneInUse_iff] using hu
  · rw [State.completeDrain_tiles] at ht
    exact census_keeps (counts_of_dropTiles ht)

theorem State.RetentionLaw.settleDrain {s : State} (h : s.RetentionLaw) :
    s.settleDrain.RetentionLaw := by
  rcases settleDrain_cases s with ⟨hs, hu, hm, he⟩ | ⟨-, he⟩
  · rw [he]
    exact h.completeDrain hs hu hm
  · rwa [he]

/-- Where the mode has not settled, no period is under way. -/
theorem State.RetentionLaw.not_inPeriod {s : State} (h : s.RetentionLaw)
    (hm : s.control.mode.settled = false) : s.ret.state.inPeriod = false := by
  by_contra hs
  rw [Bool.not_eq_false] at hs
  rw [h.settled hs] at hm
  cases hm

/-- From a mode that has not settled the law is kept by a change of the tiles, the mode, the walk
and the port. -/
theorem State.RetentionLaw.of_not_settled {s t : State} (h : s.RetentionLaw)
    (hm : s.control.mode.settled = false) (hd : t.dispatch = s.dispatch)
    (hp : ∀ c, (t.chan c).paused = (s.chan c).paused) (hr : t.ret = s.ret)
    (hu : t.tags = s.tags) : t.RetentionLaw :=
  h.of_not_inPeriod (h.not_inPeriod hm)
    (hd.trans (h.dispatch_empty (by simp [State.dispatchRuns, hm]))) hp hr hu

/-- The end of DISENGAGE keeps the law (spec/10 R203). -/
theorem State.RetentionLaw.settleDisengage {s : State} (h : s.RetentionLaw) :
    s.settleDisengage.RetentionLaw := by
  unfold State.settleDisengage
  split
  · next hd =>
    have hm : s.control.mode.settled = false := by rw [hd.1]; rfl
    exact State.RetentionLaw.settleDrain
      (h.of_not_settled hm rfl (State.paused_congr rfl rfl) rfl rfl)
  · exact h

/-- The RESTART clear leaves ACTIVE with no channel paused, before any drain starts
(spec/10 R206). -/
theorem State.retentionLaw_clear (s : State) : s.clear.RetentionLaw := by
  refine State.RetentionLaw.startDrain (State.retentionLaw_of_active rfl (fun c => ?_) fun hr => ?_)
  · cases c <;> rfl
  · cases hr

theorem State.RetentionLaw.settleRestart {s : State} (h : s.RetentionLaw) :
    s.settleRestart.RetentionLaw := by
  unfold State.settleRestart
  split
  · exact s.retentionLaw_clear
  · exact h

/-- What the settling of a tag completes keeps the law. -/
theorem State.RetentionLaw.settleTag {s : State} (h : s.RetentionLaw) :
    s.settleTag.RetentionLaw := by
  unfold State.settleTag
  split
  · exact h.settleRestart
  · exact h.settleDisengage
  · exact h.settleDrain
  · exact h.settleDrain
  · exact h

end Sys2Proof.Machine
end

section
/-! Every step keeps the retention law (O9): the commands, block by block, and the settlement. -/

namespace Sys2Proof.Machine

/-! ### The host link and the Dispatch Unit -/

/-- RETAIN_EXIT is sent within a period (spec/04 R97). -/
theorem State.RetentionLaw.sendExit {s : State} (h : s.RetentionLaw)
    (hs : s.ret.state.inPeriod = true) (n : Nat) : (s.sendExit n).RetentionLaw :=
  (h.setRet hs (r := (s.sendExit n).ret) (.inl rfl) (by simp) (by simp)).congr rfl

/-- A request at its arrival: in RETAINED it may start the exit (spec/02 R23, spec/04 R96). -/
theorem State.RetentionLaw.handArrival {s : State} (h : s.RetentionLaw) (r : HostRequest) :
    (s.handArrival r).RetentionLaw := by
  have happend : (s.append r).RetentionLaw := h.congr rfl
  unfold State.handArrival
  split
  · exact happend
  · exact happend
  · exact happend
  · split
    · exact happend.congr rfl
    · exact happend
  · next hs =>
    split
    · have hneed : (s.append r).needRelease.RetentionLaw := happend.congr rfl
      have hper : (s.append r).needRelease.ret.state.inPeriod = true := by
        show s.ret.state.inPeriod = true
        rw [hs]
        rfl
      exact hneed.sendExit hper 1
    · exact h.congr rfl
  · exact h.congr rfl

theorem State.RetentionLaw.receive {s : State} (h : s.RetentionLaw) (r : HostRequest) :
    (s.receive r).RetentionLaw := by
  unfold State.receive
  dsimp only
  split
  · exact h.congr rfl
  · refine State.RetentionLaw.handArrival ?_ r
    exact h.congr rfl

/-- A head that is classified leaves the pause flags, the mode and the retention state. -/
theorem State.settleHead_pauseView (s : State) (r : HostRequest) (d : Decision) :
    (s.settleHead r d).pauseView = s.pauseView := by
  cases d with
  | answer st data n => cases n <;> rfl
  | forward how => rfl
  | wait => rfl
  | claim c => cases c <;> rfl

/-- A head that acts on its grant leaves the pause flags, the mode and the retention state. -/
theorem State.grantHead_pauseView (s : State) (r : HostRequest) (t : Tag) :
    (s.grantHead r t).pauseView = s.pauseView := by
  by_cases hf : ∃ how, classify s r = .forward how
  · obtain ⟨how, hc⟩ := hf
    obtain ⟨tags, l, he⟩ := s.passHead_issue_eq t
      (.host r.body.kind (burstAddr r.addr) r.tag how.link) (burstAddr r.addr)
      (how.body s.settings r.body)
    simp only [State.grantHead, hc, State.issueHead, he]
    cases how with
    | plain => rfl
    | writeClaim k => rfl
    | reissue c o => cases c <;> rfl
    | insert c o => cases c <;> rfl
  · rw [grantHead_eq_settleHead t fun how hc => hf ⟨how, hc⟩]
    exact s.settleHead_pauseView r _

/-- A start on a channel leaves the pause flags, the mode and the retention state. -/
theorem State.startFill_pauseView (s : State) (t : Tile) (c : Chan) :
    (s.startFill t c).pauseView = s.pauseView := by
  cases c <;> rfl

theorem execFillStart_keeps_retention {s t : State} (h : s.RetentionLaw)
    (he : execFillStart s = .next t) : t.RetentionLaw := by
  refine next_inj ?_ he
  split
  · next k c _ =>
    split
    · next hr =>
      split
      · split
        · exact h.of_running hr (s.startFill_pauseView k c)
        · split
          · exact h.of_running hr (s.startFill_pauseView k (otherChan c))
          · exact h.of_running hr rfl
      · exact h.dropHead
    · exact h
  · exact h
  · exact h
  · exact h

theorem execQueueAtHead_keeps_retention {s t : State} (h : s.RetentionLaw)
    (he : execQueueAtHead s = .next t) : t.RetentionLaw := by
  refine next_inj ?_ he
  split
  · split
    · next hr =>
      unfold State.takeQueueAtHead
      split
      · exact h.of_running hr rfl
      · exact h.dropHead
    · exact h
  · exact h
  · exact h
  · exact h

theorem execPromotion_keeps_retention {s t : State} (h : s.RetentionLaw)
    (he : execPromotion s = .next t) : t.RetentionLaw := by
  refine next_inj ?_ he
  split
  · split
    · next hr =>
      split
      · exact h.of_running hr rfl
      · exact h.dropHead
    · exact h
  · exact h
  · exact h
  · exact h

/-! ### The Fill Engine -/

/-- A fill write sent before its channel takes a record with the same pause flag leaves the flags,
the mode, the retention state and the dispatch unit. -/
theorem State.issueFill_setChan_pauseView (s : State) (c : Chan) (t : Tile) (o : Nat) (tag : Tag)
    {r : Channel} (hr : r.paused = (s.chan c).paused) :
    ((s.issueFill c t o tag).setChan c r).pauseView = s.pauseView ∧
      ((s.issueFill c t o tag).setChan c r).dispatch = s.dispatch := by
  cases c with
  | ch0 => exact ⟨Prod.ext hr rfl, rfl⟩
  | ch1 => exact ⟨Prod.ext rfl (Prod.ext hr rfl), rfl⟩

/-- A channel issues a fill write only while it is not paused, which is in ACTIVE
(spec/03 R49, R57). -/
theorem State.RetentionLaw.grantChan {s : State} (h : s.RetentionLaw) (c : Chan) (tag : Tag) :
    (s.grantChan c tag).RetentionLaw := by
  have hself : (s.setChan c (s.chan c)).RetentionLaw := h.setChan c rfl
  unfold State.grantChan
  split
  · next t _ =>
    split
    · exact hself
    · next hp =>
      rw [not_or, Bool.not_eq_true] at hp
      have ha := h.active_of_unpaused hp.1
      have hissue (o : Nat) {r : Channel} (hr : r.paused = (s.chan c).paused) :
          ((s.issueFill c t o tag).setChan c r).RetentionLaw := by
        obtain ⟨hv, hd⟩ := s.issueFill_setChan_pauseView c t o tag hr
        exact h.of_awake (.inl ha) hv (.inr hd)
      split
      · exact hissue _ rfl
      · split
        · exact hissue _ rfl
        · exact hself
  · exact hself
  · exact hself

/-- A channel that may take can take (spec/03 R71). -/
theorem canTake_of_mayTake {s : State} {c : Chan} (h : s.mayTake c = true) :
    s.canTake c = true := by
  cases c
  · exact h
  · simp only [State.mayTake, Bool.and_eq_true] at h
    exact h.1

theorem execTake_keeps_retention {s t : State} (h : s.RetentionLaw) (c : Chan)
    (he : execTake c s = .next t) : t.RetentionLaw := by
  refine next_inj ?_ he
  split
  · exact h
  · next k rest _ =>
    split
    · next hc =>
      obtain ⟨-, hp, -⟩ := (canTake_iff s c).1 (canTake_of_mayTake hc.1)
      exact h.of_awake (.inl (h.active_of_unpaused hp)) (s.startFill_pauseView k c)
        (.inr (s.startFill_dispatch k c))
    · exact h

theorem execCursorStep_keeps_retention {s t : State} (h : s.RetentionLaw) (c : Chan)
    (he : execCursorStep c s = .next t) : t.RetentionLaw := by
  refine next_inj ?_ he
  split
  · split
    · exact (h.setChan c (r := (s.chan c).stepped) rfl).tryComplete c
    · exact h
  · exact h

/-! ### The memory link -/

theorem State.RetentionLaw.takeResponse {s : State} (h : s.RetentionLaw) (t : Tag) (st : MemStatus)
    (data : Burst) : (s.takeResponse t st data).RetentionLaw := by
  have hfree : (s.setTag t .free).RetentionLaw := h.setTag t rfl
  unfold State.takeResponse
  split
  · exact h.post _
  · exact hfree.post _
  · exact ((hfree.respond _ _ _).handSkip _ t _).settleTag
  · exact (hfree.handFill _ _ t _).settleTag

theorem execResponseTimeout_keeps_retention {s t : State} (h : s.RetentionLaw) (tag : Tag)
    (he : execResponseTimeout tag s = .next t) : t.RetentionLaw := by
  refine next_inj ?_ he
  split
  · split
    · exact (((((h.reach _).setTag tag rfl).post _).respond _ _ _).handSkip _ tag false).settleTag
    · exact h
  · exact h
  · exact h
  · exact h

theorem execFillWriteTimeout_keeps_retention {s t : State} (h : s.RetentionLaw) (tag : Tag)
    (he : execFillWriteTimeout tag s = .next t) : t.RetentionLaw := by
  refine next_inj ?_ he
  split
  · split
    · exact ((((h.reach _).setTag tag rfl).post _).handFill _ _ tag false).settleTag
    · exact h
  · exact h
  · exact h
  · exact h

/-! ### The Retention Controller -/

/-- A done message keeps the law where its match does in the state it is matched in
(spec/04 R86, R101). -/
theorem State.RetentionLaw.takeDone {s : State} (h : s.RetentionLaw) (wanted : RetState)
    {matched : State → State}
    (hm : ∀ u : State, u.RetentionLaw → u.ret.state = wanted → (matched u).RetentionLaw) :
    (s.takeDone wanted matched).RetentionLaw := by
  unfold State.takeDone
  split
  · dsimp only
    split
    · next hs => exact hm _ h.settleDrain hs
    · exact h.settleDrain.post _
  · exact h

/-- ENTER_DONE leads from ENTERING to RETAINED or EXITING (spec/04 R92). -/
theorem State.RetentionLaw.entered {s : State} (h : s.RetentionLaw) (hs : s.ret.state = .entering) :
    s.entered.RetentionLaw := by
  have hper : s.ret.state.inPeriod = true := by rw [hs]; rfl
  have hcleared : ({ s with ret := { s.ret with deadline := none, pendingWake := false } } :
      State).RetentionLaw := h.congr rfl
  unfold State.entered
  dsimp only
  split
  · exact (hcleared.post _).setRet hper (.inl rfl) rfl rfl
  · refine State.RetentionLaw.sendExit ?_ hper 1
    exact h.congr rfl

/-- EXIT_DONE leads from EXITING to ACTIVE, with no channel paused, before any drain starts
(spec/04 R98). -/
theorem State.RetentionLaw.exited {s : State} (h : s.RetentionLaw) (hs : s.ret.state = .exiting) :
    s.exited.RetentionLaw := by
  have hempty := h.dispatch_empty_of_ne (by simp [hs])
  exact State.RetentionLaw.startDrain
    (State.retentionLaw_of_active rfl (fun c => by cases c <;> rfl) fun _ => hempty)

/-- The passing of the directive deadline writes the clock alone. -/
theorem State.reachDirective_eq (s : State) : ∃ d, s.reachDirective = { s with now := d } := by
  unfold State.reachDirective
  split <;> exact ⟨_, rfl⟩

theorem State.RetentionLaw.reachDirective {s : State} (h : s.RetentionLaw) :
    s.reachDirective.RetentionLaw := by
  obtain ⟨d, he⟩ := s.reachDirective_eq
  rw [he]
  exact h.congr rfl

theorem State.reachDirective_ret (s : State) : s.reachDirective.ret = s.ret := by
  obtain ⟨d, he⟩ := s.reachDirective_eq
  rw [he]

theorem execEntryTimeout_keeps_retention {s t : State} (h : s.RetentionLaw)
    (he : execEntryTimeout s = .next t) : t.RetentionLaw := by
  refine next_inj ?_ he
  split
  · next hs =>
    refine State.RetentionLaw.sendExit (h.reachDirective.congr rfl) ?_ 1
    show s.reachDirective.ret.state.inPeriod = true
    rw [s.reachDirective_ret, hs.1]
    rfl
  · exact h

theorem execExitTimeout_keeps_retention {s t : State} (h : s.RetentionLaw)
    (he : execExitTimeout s = .next t) : t.RetentionLaw := by
  refine next_inj ?_ he
  split
  · next hs =>
    refine (h.reachDirective.post _).sendExit ?_ 2
    show s.reachDirective.ret.state.inPeriod = true
    rw [s.reachDirective_ret, hs.1]
    rfl
  · exact h

/-- The part halts from a period, with no tag IN_USE (spec/04 R100). -/
theorem State.RetentionLaw.halted {s : State} (h : s.RetentionLaw)
    (hs : s.ret.state.inPeriod = true) : s.halted.RetentionLaw := by
  refine State.RetentionLaw.flush ?_ .refused
  exact ((h.post _).post _).setRet hs (.inr rfl) rfl rfl

theorem execHalt_keeps_retention {s t : State} (h : s.RetentionLaw)
    (he : execHalt s = .next t) : t.RetentionLaw := by
  refine next_inj ?_ he
  split
  · next hs =>
    refine h.reachDirective.halted ?_
    rw [s.reachDirective_ret, hs.1]
    rfl
  · exact h

/-- The fall of SLP_REQ aborts a drain, which ends the pause, or ends a retained period
(spec/04 R88, R95). -/
theorem State.RetentionLaw.slpFell {s : State} (h : s.RetentionLaw) : s.slpFell.RetentionLaw := by
  have hfell : ({ s with pins := { s.pins with slpReqHigh := false },
                         ret := { s.ret with releaseNeeded := false } } : State).RetentionLaw :=
    h.congr rfl
  unfold State.slpFell
  dsimp only
  split
  · next hs =>
    have hempty := h.dispatch_empty_of_ne (by simp [hs])
    exact State.retentionLaw_of_active rfl (fun c => by cases c <;> rfl) fun _ => hempty
  · next hs => exact hfell.sendExit (by show s.ret.state.inPeriod = true; rw [hs]; rfl) 1
  · exact hfell
  · exact hfell
  · exact hfell
  · exact hfell

/-- Hard reset leaves ACTIVE with no channel paused (spec/12 R213). -/
theorem State.retentionLaw_hardReset (s : State) : s.hardReset.RetentionLaw :=
  State.retentionLaw_of_active rfl (fun c => by cases c <;> rfl) fun _ => rfl

/-! ### The management port -/

/-- A command that is taken keeps the law where its event does (spec/09 R176). -/
theorem State.RetentionLaw.takeCommand {s : State} (h : s.RetentionLaw) (t : Nat) {after : State}
    (ha : after.RetentionLaw) (reply : List Byte) : (s.takeCommand t after reply).RetentionLaw := by
  unfold State.takeCommand
  split
  · exact ha.setFrame _
  · exact h

theorem State.RetentionLaw.raiseSelect {s : State} (h : s.RetentionLaw) :
    s.raiseSelect.RetentionLaw := by
  unfold State.raiseSelect
  split
  · exact h.congr rfl
  · exact h

/-- A long command keeps the law where its acceptance does (spec/09 R175, R185). -/
theorem State.RetentionLaw.takeLong {s : State} (h : s.RetentionLaw) (c : LongCmd) (t : Nat)
    {why : Option Reason} {accepted : State} (ha : why = none → accepted.RetentionLaw) :
    (s.takeLong c t why accepted).RetentionLaw := by
  unfold State.takeLong
  split
  · split
    · exact h.setFrame _
    · refine h.takeCommand t ?_ _
      split
      · exact h.congr rfl
      · exact ha rfl
  · exact h

/-- A command judged fit for ACTIVE, by a check for it, finds no period under way. -/
theorem not_inPeriod_of_firstFailure {s : State} {l : List (Bool × Reason)}
    (hl : (s.retActive, Reason.state) ∈ l) (h : firstFailure l = none) :
    s.ret.state.inPeriod = false := by
  have ha : s.ret.state = .active := by
    simpa [State.retActive] using firstFailure_none h _ hl
  rw [ha]
  rfl

/-- The acceptance of ENGAGE suspends dispatch outside any period (spec/10 R199). -/
theorem State.RetentionLaw.acceptEngage {s : State} (h : s.RetentionLaw)
    (hs : s.ret.state.inPeriod = false) (option : Byte) : (s.acceptEngage option).RetentionLaw := by
  unfold State.acceptEngage
  split
  · exact h
  · exact h.of_not_inPeriod hs rfl (State.paused_congr rfl rfl) rfl rfl

/-- The ENGAGE walk runs in ENGAGING, where no period is under way (spec/10 R200, R201). -/
theorem execEngageWalkClaim_keeps_retention {s t : State} (htr : s.TrackingLaw)
    (h : s.RetentionLaw) (he : execEngageWalkClaim s = .next t) : t.RetentionLaw := by
  refine next_inj ?_ he
  split
  · exact h
  · next w hw =>
    have hm : s.control.mode.settled = false := by
      obtain ⟨-, -, -, -, hmode⟩ := htr
      rw [hmode.engaging_of_walk hw]
      rfl
    split
    · split
      · exact State.RetentionLaw.settleDrain
          (h.of_not_settled hm rfl (State.paused_congr rfl rfl) rfl rfl)
      · exact h.of_not_settled hm rfl (State.paused_congr rfl rfl) rfl rfl
    · exact h

@[simp] theorem Channel.released_paused (r : Channel) : r.released.paused = r.paused := by
  unfold Channel.released
  split <;> simp

/-- The acceptance of DISENGAGE suspends dispatch outside any period (spec/10 R202). -/
theorem State.RetentionLaw.acceptDisengage {s : State} (h : s.RetentionLaw)
    (hs : s.ret.state.inPeriod = false) : s.acceptDisengage.RetentionLaw := by
  rw [acceptDisengage_eq]
  have hp : ∀ c, (s.disengaging.chan c).paused = (s.chan c).paused :=
    State.paused_congr s.chan0.released_paused s.chan1.released_paused
  refine State.RetentionLaw.settleDisengage (h.of_not_inPeriod hs rfl hp ?_ ?_)
  · simp only [State.disengaging]
  · simp only [State.disengaging]

/-- The acceptance of RESTART suspends dispatch outside any period (spec/10 R204). -/
theorem State.RetentionLaw.acceptRestart {s : State} (h : s.RetentionLaw)
    (hs : s.ret.state.inPeriod = false) : s.acceptRestart.RetentionLaw := by
  have hflush (u : State) (hu : u.dropHead.RetentionLaw) :
      (u.flush .aborted).examineChans.RetentionLaw :=
    State.RetentionLaw.setChan
      (State.RetentionLaw.setChan (hu.congr (u.flush_retentionView _)) .ch0 rfl) .ch1 rfl
  refine State.RetentionLaw.settleRestart (hflush _ ?_)
  exact h.of_not_inPeriod hs rfl (State.paused_congr rfl rfl) rfl rfl

/-- RESTART is judged fit in ACTIVE and HALTED, outside any period (spec/10 R204). -/
theorem not_inPeriod_of_judgeRestart {s : State} (h : s.judgeRestart = none) :
    s.ret.state.inPeriod = false := by
  have hs : s.ret.state = .active ∨ s.ret.state = .halted := by
    simpa [State.retActive] using firstFailure_none h _ (List.mem_singleton_self _)
  rcases hs with hs | hs <;> rw [hs] <;> rfl

/-! ### The claims of the range walks -/

/-- A discard claim leaves no tile that counts more (spec/01 R13). -/
theorem State.RetentionLaw.discardTile {s : State} (h : s.RetentionLaw) (t : Tile) :
    (s.discardTile t).1.RetentionLaw := by
  have hset {x : TileState} (hx : x.counts = false) : (s.setTile t x).RetentionLaw :=
    h.setTile (by simp [hx])
  unfold State.discardTile
  split
  · exact hset rfl
  · exact State.RetentionLaw.congr (hset (x := .void) rfl) rfl
  · exact (hset (x := .void) rfl).setChan _ (by simp)
  · exact hset rfl
  · exact h
  · exact h
  · exact h

theorem State.RetentionLaw.prepareTile {s : State} (h : s.RetentionLaw) (t : Tile) :
    (s.prepareTile t).1.RetentionLaw := by
  unfold State.prepareTile
  split
  · have hset : (s.setTile t .queued).RetentionLaw := h.setTile (by simp [TileState.counts])
    exact hset.congr rfl
  · exact h
  · exact h
  · exact h
  · exact h
  · exact h
  · exact h

/-- An adopt claim is made in ACTIVE and DRAINING, where more tiles may count (spec/04 R105). -/
theorem State.RetentionLaw.adoptTile {s : State} (h : s.RetentionLaw) (hs : s.adoptHeld = false)
    (t : Tile) : (s.adoptTile t).1.RetentionLaw := by
  have hawake : s.ret.state = .active ∨ s.ret.state = .draining := by
    unfold State.adoptHeld at hs
    split at hs
    · next ha => exact .inl ha
    · next hd => exact .inr hd
    all_goals cases hs
  have hview : (s.adoptTile t).1.pauseView = s.pauseView ∧
      (s.adoptTile t).1.dispatch = s.dispatch := by
    unfold State.adoptTile
    split <;> exact ⟨rfl, rfl⟩
  exact h.of_awake hawake hview.1 (.inr hview.2)

theorem State.RetentionLaw.advanceWalk {s : State} (h : s.RetentionLaw) (w : RangeWalk)
    (changed : Bool) : (s.advanceWalk w changed).RetentionLaw := h.congr rfl

/-! ### Every command, and every step -/

/-- Every command keeps the retention law, where the tracking law holds. -/
theorem exec_keeps_retention {s t : State} (i : Instr) (htr : s.TrackingLaw) (h : s.RetentionLaw)
    (he : exec i s = .next t) : t.RetentionLaw := by
  cases i with
  | request r =>
    refine next_inj ?_ he
    split
    · split
      · exact h.post _
      · exact h.receive r
    · exact h
  | hostLinkUp | memoryLinkUp | credit _ | unknownCommand _ =>
    refine next_inj ?_ he
    split
    · exact h.congr rfl
    · exact h.congr rfl
  | response w st data =>
    refine next_inj ?_ he
    split
    · split
      · exact h.takeResponse _ st data
      · exact h.post _
    · exact h
  | enterDone => exact next_inj (h.takeDone _ fun _ hu hs => hu.entered hs) he
  | exitDone => exact next_inj (h.takeDone _ fun _ hu hs => hu.exited hs) he
  | responseTimeout tag => exact execResponseTimeout_keeps_retention h tag he
  | fillWriteTimeout tag => exact execFillWriteTimeout_keeps_retention h tag he
  | entryTimeout => exact execEntryTimeout_keeps_retention h he
  | exitTimeout => exact execExitTimeout_keeps_retention h he
  | halt => exact execHalt_keeps_retention h he
  | slpReqRise =>
    refine next_inj ?_ he
    split
    · exact h
    · exact State.RetentionLaw.startDrain (h.congr rfl)
  | slpReqFall =>
    refine next_inj ?_ he
    split
    · exact h.slpFell
    · exact h
  | drainCompletion => exact next_inj h.settleDrain he
  | hardReset => exact next_inj s.retentionLaw_hardReset he
  | hardResetEnd =>
    refine next_inj ?_ he
    split
    · exact State.RetentionLaw.startDrain (h.congr rfl)
    · exact h
  | headClassification =>
    refine next_inj ?_ he
    split
    · exact h
    · split
      · next hr => exact h.of_running hr (s.settleHead_pauseView _ _)
      · exact h
  | fillStart => exact execFillStart_keeps_retention h he
  | queueAtHead => exact execQueueAtHead_keeps_retention h he
  | promotion => exact execPromotion_keeps_retention h he
  | headGrant =>
    refine next_inj ?_ he
    split
    · split
      · next hr => exact h.of_running hr.1 (s.grantHead_pauseView _ _)
      · exact h
    all_goals exact h
  | channelGrant c =>
    refine next_inj ?_ he
    split
    · split
      · exact h.grantChan c _
      · exact h
    · exact h
  | take c => exact execTake_keeps_retention h c he
  | cursorStep c => exact execCursorStep_keeps_retention h c he
  | status | result | get _ | set _ _ | readTile _ | readChannel _ | takeNotice =>
    refine next_inj (h.takeCommand _ ?_ _) he
    exact h.congr rfl
  | frameAbandon | frameEnd => exact next_inj h.raiseSelect he
  | engage option =>
    refine next_inj (h.takeLong _ _ fun hw => h.acceptEngage ?_ option) he
    exact not_inPeriod_of_firstFailure (by simp) hw
  | engageWalkClaim => exact execEngageWalkClaim_keeps_retention htr h he
  | disengage =>
    refine next_inj (h.takeLong _ _ fun hw => h.acceptDisengage ?_) he
    exact not_inPeriod_of_firstFailure (by simp) hw
  | disengageEnd => exact next_inj h.settleDisengage he
  | restart =>
    refine next_inj (h.takeLong _ _ fun hw => h.acceptRestart ?_) he
    exact not_inPeriod_of_judgeRestart hw
  | restartClear => exact next_inj h.settleRestart he
  | discard _ _ | prepare _ _ | adopt _ _ =>
    refine next_inj (h.takeLong _ _ fun _ => ?_) he
    exact h.congr rfl
  | discardClaim =>
    refine next_inj ?_ he
    split
    · exact h
    · exact (h.discardTile _).advanceWalk _ _
  | prepareClaim =>
    refine next_inj ?_ he
    split
    · exact h
    · split
      · exact h
      · exact (h.prepareTile _).advanceWalk _ _
  | adoptClaim =>
    refine next_inj ?_ he
    split
    · exact h
    · split
      · exact h
      · next hheld => exact (h.adoptTile (by simpa using hheld) _).advanceWalk _ _
  | frameBegin =>
    refine next_inj ?_ he
    split
    · exact h
    · dsimp only
      split
      · exact h.congr rfl
      · exact h.congr rfl

/-- Settles O9: a step is a command, which keeps the law, or a tick of the clock. -/
theorem stepKeepsRetentionLaw : Obligations.StepKeepsRetentionLaw := by
  intro s t htr h hstep
  rcases step_cases hstep with ⟨c, rest, -, he⟩ | ⟨c, -, -, he⟩ | ⟨-, -, rfl⟩
  · exact exec_keeps_retention (s := { s with pending := rest }) c (htr.congr rfl) (h.congr rfl) he
  · exact exec_keeps_retention c htr h he
  · exact h.congr rfl

end Sys2Proof.Machine
end

section
/-! Requests at their arrival (O20), the halt (O34) and hard reset with its end (O38). -/

namespace Sys2Proof.Machine

/-! ### Arrival -/

/-- The Host Link once a request has been admitted: a credit is spent and its host tag is
outstanding (spec/07 R152, R155). -/
def HostLink.admitted (h : HostLink) (t : HostTag) : HostLink :=
  { h with balance := h.balance - 1, outstanding := addTag h.outstanding t }

/-- A request with a credit and a host tag that is not outstanding is handed to the Request Queue
(spec/07 R152). -/
theorem exec_request_admitted {s : State} {r : HostRequest} (hup : s.host.up = true)
    (hb : 0 < s.host.balance) (ht : hasTag s.host.outstanding r.tag = false) :
    exec (.request r) s =
      .next (({ s with host := s.host.admitted r.tag } : State).handArrival r) := by
  have hreceive : s.receive r =
      ({ s with host := s.host.admitted r.tag } : State).handArrival r := by
    simp only [State.receive, ht, Bool.false_eq_true, if_false, HostLink.admitted]
  simp only [exec, execRequest, hup, if_true, if_neg (Nat.ne_of_gt hb), hreceive]

/-- A refusal at arrival undoes the admission and sends REFUSED with the credit (spec/02 R23). -/
theorem refuseArrival_admitted {s : State} {r : HostRequest} (ho : s.host.owed = 0)
    (hb : 0 < s.host.balance) (ht : hasTag s.host.outstanding r.tag = false) :
    ({ s with host := s.host.admitted r.tag } : State).refuseArrival r =
      { s with host := { s.host with
        sent := s.host.sent ++ [.response r.tag .refused none, .credit 1] } } := by
  have hback : s.host.balance - 1 + 1 = s.host.balance := Nat.sub_add_cancel hb
  simp [State.refuseArrival, State.respond, State.returnCredits, HostLink.sendCredit,
    HostLink.admitted, ho, hback, dropTag_addTag _ _ ht]

/-- Settles O20: what the Request Queue does with an admitted request, by the retention state. -/
theorem admittedRequestMeetsRetentionState : Obligations.AdmittedRequestMeetsRetentionState := by
  intro s r hup ho hb ht h refused
  rw [exec_request_admitted hup hb ht]
  refine ⟨fun hs => ?_, fun hs => ?_, fun hs hw => ?_, fun hs hw => ?_, fun hs => ?_⟩
  · rcases hs with hs | hs | hs <;> simp only [State.handArrival, hs] <;> rfl
  · cases hw : s.settings.wakeOnAccess
    · simp only [State.handArrival, hs, hw, Bool.false_eq_true, if_false, Bool.or_false]
      rw [← hs]
      rfl
    · simp only [State.handArrival, hs, hw, if_true, Bool.or_true]
      rw [← hs]
      rfl
  · simp only [State.handArrival, hs, hw, if_true]
    rfl
  · have hrefuse := refuseArrival_admitted (s := s.post (requestNotice .asleepRefused r)) ho hb ht
    simp only [State.handArrival, hs, hw, Bool.false_eq_true, if_false]
    exact congrArg _ hrefuse
  · simp only [State.handArrival, hs]
    exact congrArg _ (refuseArrival_admitted ho hb ht)

/-! ### The halt -/

/-- The directive deadline that passes brings the clock to it (spec/12 R213). -/
theorem reachDirective_some {s : State} {d : Micros} (hd : s.ret.deadline = some d) :
    s.reachDirective = s.reach d := by
  simp only [State.reachDirective, hd]

/-- The part halts where it is EXITING at attempt 2 and its deadline is the first to pass, and
otherwise nothing happens (spec/04 R100). -/
theorem exec_halt_eq {s : State} {d : Micros} (hd : s.ret.deadline = some d)
    (hs : s.ret.state = .exiting) (ha : s.ret.exitAttempts = 2) :
    exec .halt s = .next (if s.noneBefore d then (s.reach d).halted else s) := by
  simp only [exec, execHalt, hs, ha, hd, State.passesFirst, true_and, reachDirective_some hd]

/-- Settles O34: the halt is a flush of the state that its notices and its record leave. -/
theorem secondExitTimeoutHalts : Obligations.SecondExitTimeoutHalts := by
  intro s d hd hs ha ho
  rw [exec_halt_eq hd hs ha]
  refine ⟨fun h => ?_, fun h => ?_⟩
  · rw [(noneBefore_false_iff s d).2 h, if_neg Bool.false_ne_true]
  · rw [(noneBefore_iff s d).2 h, if_pos rfl, State.halted, flush_eq _ _ (by exact ho)]
    simp only [List.length_eq_zero_iff]
    rfl

/-! ### Hard reset and its end -/

/-- The rise of RST_N asserts the ready lines and starts a drain that is due (spec/04 R84, R108). -/
theorem exec_hardResetEnd_eq {s : State} (h : s.pins.inReset = true) :
    exec .hardResetEnd s = .next (State.startDrain { s with pins :=
      { s.pins with inReset := false, hostReady := true, memReady := true } }) := by
  simp only [exec, execHardResetEnd, h, if_true]

/-- At the rise of RST_N a drain is due exactly where SLP_REQ is high (spec/04 R84, R108). -/
theorem drainDue_hardReset_rise (s : State) :
    State.drainDue { s.hardReset with pins :=
      { s.hardReset.pins with inReset := false, hostReady := true, memReady := true } } =
        s.pins.slpReqHigh := by
  simp [State.drainDue, State.hardReset, State.reset, Retention.reset]

/-- Settles O38: the fields of the state under RST_N, and the drain its rise starts. -/
theorem hardResetAndItsEnd : Obligations.HardResetAndItsEnd := by
  intro s
  refine ⟨s.hardReset, rfl, noTiles_get, fun t => ?_, rfl, rfl, rfl, fun c => ?_, rfl, rfl, rfl,
    rfl, rfl, rfl, rfl, rfl, rfl, rfl, fun hp => ?_, fun hp => ?_⟩
  · exact reset_tag t.val t.isLt
  · cases c <;> rfl
  · rw [exec_hardResetEnd_eq rfl, State.startDrain, drainDue_hardReset_rise, hp,
      if_neg Bool.false_ne_true]
    rfl
  · rw [exec_hardResetEnd_eq rfl, State.startDrain, drainDue_hardReset_rise, hp, if_pos rfl]
    rfl

end Sys2Proof.Machine
end

section
/-! The head's local answers (O39), its classification on a FILLING tile (O41), and its grant ahead
of the cursor (O45). -/

namespace Sys2Proof.Machine

/-! ### Local answers -/

/-- A head that is classified LOCAL is answered, and its notice posted (spec/02 R43). -/
theorem exec_headClassification_answer {s : State} {r : HostRequest} {rest : List HostRequest}
    {st : HostStatus} {data : Option Burst} {n : Option Notice} (hr : s.requests = r :: rest)
    (hd : s.dispatchRuns = true) (ho : s.host.owed = 0)
    (hc : classify s r = .answer st data n) :
    exec .headClassification s = .next ((s.postSome n).afterAnswer r st data) := by
  rw [exec_headClassification_eq hr hd, hc]
  exact congrArg _ (answerHead_eq s r st data n ho)

/-- The same, for a head inside the window that its tile's record answers. -/
theorem exec_headClassification_tile_answer {s : State} {r : HostRequest} {t : Tile} {o : Nat}
    {st : HostStatus} {data : Option Burst} {n : Option Notice} (h : s.HeadAt r t o)
    (ho : s.host.owed = 0) (hc : classifyTile s t o r = .answer st data n) :
    exec .headClassification s = .next ((s.postSome n).afterAnswer r st data) := by
  obtain ⟨he, ⟨rest, hr⟩, hd⟩ := classify_of_headAt h
  exact exec_headClassification_answer hr hd ho (he.trans hc)

/-- An address at or above C is refused with RANGE (spec/02 R32). -/
theorem classify_outside {s : State} {r : HostRequest} (hm : s.control.mode = .engaged)
    (ha : s.settings.capacityBytes ≤ (burstAddr r.addr).toNat) :
    classify s r = .answer .refused none (some (headNotice .range none r)) := by
  have hb : s.control.mode ≠ .bypass := by simp [hm]
  simp only [classify, if_neg hb, if_pos ha]

/-- A read of a VOID or QUEUED tile is answered by VOID_POLICY (spec/02 R33). -/
theorem classifyTile_void_read {s : State} {r : HostRequest} {t : Tile} (o : Nat)
    (ht : s.tiles[t] = .void ∨ s.tiles[t] = .queued) (hk : r.body.kind = .read) :
    classifyTile s t o r = voidAnswer s.settings t r := by
  rcases ht with ht | ht <;> simp only [classifyTile, ht, hk]

/-- Settles O39: each case is a classification that is LOCAL. -/
theorem headIsAnsweredLocally : Obligations.HeadIsAnsweredLocally := by
  intro s r t o ho a voidRead
  refine ⟨fun hm hs hr ha => ?_, fun hat ht => ?_, fun hat ht hk => ?_⟩
  · obtain ⟨rest, hr⟩ := requests_of_head hr
    have hd := (dispatchRuns_iff s).2 ⟨.inr hm, hs⟩
    exact exec_headClassification_answer hr hd ho (classify_outside hm ha)
  · have hfailed : classifyTile s t o r =
        .answer .refused none (some (headNotice .failedAccess (some t) r)) := by
      simp only [classifyTile, ht]
    exact exec_headClassification_tile_answer hat ho hfailed
  · have hvoid := classifyTile_void_read o ht hk
    refine ⟨fun hp => ?_, fun hp => ?_, fun hp => ?_⟩ <;>
      rw [voidAnswer, hp] at hvoid <;>
      exact exec_headClassification_tile_answer hat ho hvoid

/-! ### A head on a FILLING tile -/

/-- Nothing is in flight at an offset that no entry has. -/
theorem flightAt_eq_false {r : Channel} {o : Nat} (hf : ∀ e ∈ r.inFlight, e.offset ≠ o) :
    r.flightAt o = false := by
  rw [Bool.eq_false_iff, Ne, flightAt_iff]
  rintro ⟨e, he, heo⟩
  exact hf e he heo

/-- A head on a burst that is in flight waits (spec/02 R37). -/
theorem classifyFilling_inFlight {s : State} {c : Chan} {o : Nat} (r : HostRequest)
    (hf : ∃ e ∈ (s.chan c).inFlight, e.offset = o) : classifyFilling s c o r = .wait := by
  simp only [classifyFilling, (flightAt_iff _ _).2 hf, if_true]

section Ahead
variable {s : State} {c : Chan} {o : Nat} {r : HostRequest}
  (hf : ∀ e ∈ (s.chan c).inFlight, e.offset ≠ o) (ho : (s.chan c).cursor ≤ o)
include hf ho

/-- A read ahead of the cursor with no skip entry is answered with fill data (spec/02 R39). -/
theorem classifyFilling_ahead_read (hk : r.body.kind = .read)
    (hn : (s.chan c).skipAt o = none) :
    classifyFilling s c o r = .answer .okay (some (fillBurst s.settings.fillWord)) none := by
  simp [classifyFilling, flightAt_eq_false hf, Nat.not_lt.2 ho, hk, hn]

/-- A write ahead of the cursor with no skip entry is forwarded where there is room for one
(spec/02 R41). -/
theorem classifyFilling_ahead_write (hk : r.body.kind = .write)
    (hn : (s.chan c).skipAt o = none) (hl : (s.chan c).skip.length < Config.skipBound) :
    classifyFilling s c o r = .forward (.insert c o) := by
  simp [classifyFilling, flightAt_eq_false hf, Nat.not_lt.2 ho, hk, hn, hl]

/-- A write ahead of the cursor with no skip entry waits where the list is full (spec/02 R41). -/
theorem classifyFilling_ahead_write_full (hk : r.body.kind = .write)
    (hn : (s.chan c).skipAt o = none) (hl : Config.skipBound ≤ (s.chan c).skip.length) :
    classifyFilling s c o r = .wait := by
  simp [classifyFilling, flightAt_eq_false hf, Nat.not_lt.2 ho, hk, hn, hl]

/-- A write ahead of the cursor over a skip entry is forwarded where the entry is CONFIRMED, and
waits where it is ISSUED (spec/02 R40). -/
theorem classifyFilling_ahead_rewrite (hk : r.body.kind = .write) {e : SkipEntry}
    (he : (s.chan c).skipAt o = some e) :
    classifyFilling s c o r =
      if e.status = .confirmed then .forward (.reissue c o) else .wait := by
  simp [classifyFilling, flightAt_eq_false hf, Nat.not_lt.2 ho, hk, he]

end Ahead

/-- Settles O41: the head's tile is FILLING, and each case is one classification there. -/
theorem headOnFillingTile : Obligations.HeadOnFillingTile := by
  intro s r t o c hat ht ho waits forward
  have htile : classifyTile s t o r = classifyFilling s c o r := by simp only [classifyTile, ht]
  have hexec : exec .headClassification s = .next (s.settleHead r (classifyFilling s c o r)) := by
    rw [exec_headClassification_headAt hat, htile]
  refine ⟨fun hf => ?_, fun hf => ⟨fun hlt => ?_, fun hle =>
    ⟨fun hno => ⟨fun hk => ?_, fun hk hlen => ?_, fun hk hlen => ?_⟩,
      fun e he => ⟨fun hk => ?_, fun hk hst => ?_, fun hk hst => ?_⟩⟩⟩⟩
  · rw [hexec, classifyFilling_inFlight r hf]
    rfl
  · rw [hexec, classifyFilling_below hf hlt]
    rfl
  · have hanswer := classifyFilling_ahead_read hf hle hk (skipAt_eq_none hno)
    exact exec_headClassification_tile_answer hat ho (htile.trans hanswer)
  · rw [hexec, classifyFilling_ahead_write hf hle hk (skipAt_eq_none hno) hlen]
    rfl
  · rw [hexec, classifyFilling_ahead_write_full hf hle hk (skipAt_eq_none hno) hlen]
    rfl
  · rw [hexec, classifyFilling_over hk hf ⟨e, skipAt_some he⟩]
    rfl
  · rw [hexec, classifyFilling_ahead_rewrite hf hle hk he, if_pos hst]
    rfl
  · obtain ⟨tag, hst⟩ := hst
    rw [hexec, classifyFilling_ahead_rewrite hf hle hk he, if_neg (by simp [hst])]
    rfl

/-! ### The grant of a write ahead of the cursor -/

/-- In a skip list in strictly ascending order the entry found at an offset is the one that has it
(spec/03 R50). -/
theorem skipAt_eq_some {r : Channel} {e : SkipEntry}
    (hp : r.skip.Pairwise fun x y => x.offset < y.offset) (he : e ∈ r.skip) :
    r.skipAt e.offset = some e := by
  obtain ⟨x, hx⟩ := skipAt_isSome ⟨e, he, rfl⟩
  obtain ⟨hin, hoff⟩ := skipAt_some hx
  have hnodup : (r.skip.map SkipEntry.offset).Nodup := List.pairwise_map.2 (hp.imp Nat.ne_of_lt)
  rw [hx, List.inj_on_of_nodup_map hnodup hin he hoff]

/-- A head forwarded on its tile is issued at its grant, with the effect of its form
(spec/02 R44). -/
theorem exec_headGrant_forward {s : State} {r : HostRequest} {tag : Tag} {t : Tile} {o : Nat}
    {how : IssueForm} (hg : s.GrantsHead tag) (hat : s.HeadAt r t o)
    (hc : classifyTile s t o r = .forward how) :
    exec .headGrant s = .next
      ((s.afterIssue r tag how.link (how.body s.settings r.body)).issueEffect tag how) := by
  obtain ⟨he, ⟨rest, hr⟩, hd⟩ := classify_of_headAt hat
  rw [exec_headGrant_eq hr hd hg, State.grantHead, he, hc]
  exact congrArg _ (issueHead_eq s r tag how hg.2.2)

/-- The issue of the head leaves both channels. -/
theorem State.afterIssue_chan (s : State) (r : HostRequest) (tag : Tag) (l : Option SkipLink)
    (b : ReqBody) (c : Chan) : (s.afterIssue r tag l b).chan c = s.chan c :=
  State.chan_congr rfl rfl c

/-- Settles O45: the two forms of issue that record a write in the skip list. -/
theorem grantedWriteAheadOfCursorIsRecorded : Obligations.GrantedWriteAheadOfCursorIsRecorded := by
  intro s r tag t o c mask data hg hat ht hb hf hle hp
  have hk : r.body.kind = .write := by rw [hb]; rfl
  have htile : classifyTile s t o r = classifyFilling s c o r := by simp only [classifyTile, ht]
  refine ⟨fun ⟨e, he, heo, hst⟩ => ?_, fun hno hlen =>
    ⟨mergeBurst s.settings.fillWord mask data, fun i => ?_, ?_⟩⟩
  · have hskip : (s.chan c).skipAt o = some e := heo ▸ skipAt_eq_some hp he
    have hc := classifyFilling_ahead_rewrite hf hle hk hskip
    rw [if_pos hst] at hc
    rw [exec_headGrant_forward hg hat (htile.trans hc), State.issueEffect, State.afterIssue_chan]
    rfl
  · rw [Fin.getElem_fin, mergeBurst_getElem, fillByte,
      show 8 * (7 - i.val % 8) = 56 - 8 * (i.val % 8) by omega]
    rfl
  · have hc := classifyFilling_ahead_write hf hle hk (skipAt_eq_none hno) hlen
    rw [exec_headGrant_forward hg hat (htile.trans hc), State.issueEffect, State.afterIssue_chan,
      insertSkip_eq _ _ hp hno, hb]
    rfl

end Sys2Proof.Machine
end

section
/-! The Fill Engine: the outcome of a skip-linked write (O23), the outcomes of a fill write that are
ignored (O26), the deadline of a host request (O27), the grant of a channel (O46) and the step of a
cursor (O48). -/

namespace Sys2Proof.Machine

/-! ### Skip-linked writes and host deadlines -/

/-- Settles O23: the one entry that an ascending list holds at the linked offset is found or not. -/
theorem skipEntryTakesItsWritesOutcome : Obligations.SkipEntryTakesItsWritesOutcome := by
  intro s c o t ok
  refine ⟨rfl, fun hp => ?_⟩
  simp only [State.handSkip, settleSkip_eq o t ok _ hp]

/-- The outcome of a skip-linked write reads and writes the channels alone, besides the mode and the
settings. -/
theorem handSkip_with (s : State) (l : Option SkipLink) (t : Tag) (ok : Bool) (now : Micros)
    (tags : Vector TagEntry 48) (host : HostLink) :
    ({ s with now := now, tags := tags, host := host } : State).handSkip l t ok =
      { s.handSkip l t ok with now := now, tags := tags, host := host } := by
  rcases l with _ | ⟨_ | _, o⟩ <;> rfl

/-- Settles O27: the deadline's conditions decide, and the skip link gets the failure last. -/
theorem hostDeadlineAnswersTimeout : Obligations.HostDeadlineAnswersTimeout := by
  intro s t k a ht l d htag
  refine ⟨fun hd => ?_, fun hd => ?_⟩
  · simp only [exec, execResponseTimeout, htag, (noneBefore_iff s d).2 hd, if_true]
    exact congrArg (fun u : State => Host.Outcome.next u.settleTag) (handSkip_with (s.post _) ..)
  · simp only [exec, execResponseTimeout, htag, (noneBefore_false_iff s d).2 hd,
      Bool.false_eq_true, if_false]

/-! ### Outcomes that are ignored -/

/-- The outcome of a fill write is ignored in RESTARTING, and by a channel that is not FILLING
(spec/03 R66, R78). -/
theorem handFill_ignored {s : State} {c : Chan} {o : Nat} {t : Tag} {e : FlightEntry}
    (he : (s.chan c).flightOf o t = some e)
    (h : s.control.mode = .restarting ∨ ∀ k, (s.chan c).state ≠ .filling k) (ok : Bool) :
    s.handFill c o t ok = s.ignoreFill c o := by
  simp only [State.handFill, he]
  split
  · rfl
  · next hm =>
    have hnot := h.resolve_left hm
    split
    · rfl
    · rfl
    · next k hk => exact absurd hk (hnot k)

/-- Settles O26: whatever the outcome, the entry leaves and the channel settles. -/
theorem ignoredFillWriteOnlyLeavesItsList : Obligations.IgnoredFillWriteOnlyLeavesItsList := by
  intro s w t st data c o a d e hup hw hdown rest answered overdue
  have hflight := flightOf_eq hdown
  obtain ⟨htag, -⟩ := hdown
  have hboth {r : Channel}
      (h : s.control.mode = .restarting ∨ ∀ k, (s.chan c).state ≠ .filling k)
      (hr : Channel.settled { s.chan c with inFlight := rest } = r) :
      exec (.response w st data) s = .next (answered.setChan c r).settleTag ∧
        (s.NoDeadlineBefore d →
          exec (.fillWriteTimeout t) s = .next (overdue.setChan c r).settleTag) := by
    have hignored (u : State) (hu : u.chan c = s.chan c) (hc : u.control = s.control) (ok : Bool) :
        u.handFill c o t ok = u.setChan c r := by
      rw [handFill_ignored (by rw [hu]; exact hflight) (by rw [hu, hc]; exact h), State.ignoreFill,
        hu, ← hr]
      rfl
    refine ⟨?_, fun hd => ?_⟩
    · rw [exec_response_eq hup hw, takeResponse_fill htag,
        ← hignored answered (State.chan_congr rfl rfl c) rfl]
      rfl
    · rw [exec_fillWriteTimeout_eq htag hd,
        ← hignored overdue (State.chan_congr rfl rfl c) rfl false]
  refine ⟨fun hs hk => hboth (.inr (by simp [hs])) ?_, fun hm hs => hboth (.inl hm) ?_⟩
  · exact Channel.settled_eq_leaving _ _ hs hk
  · exact Channel.settled_eq_self _ hs

/-! ### The grant of a channel -/

/-- RETRY_WAIT is the status that is not ISSUED. -/
theorem FlightEntry.isRetryWait_eq (e : FlightEntry) :
    e.isRetryWait = decide (e.status = .retryWait) := by
  rcases e with ⟨_, _, st⟩
  cases st <;> simp [FlightEntry.isRetryWait]

/-- The first RETRY_WAIT entry of an ascending list is the one of lowest offset (spec/03 R64). -/
theorem nextRetry_eq {r : Channel} {e : FlightEntry}
    (hp : r.inFlight.Pairwise fun x y => x.offset < y.offset) (he : e ∈ r.inFlight)
    (hw : e.status = .retryWait)
    (hmin : ∀ x ∈ r.inFlight, x.status = .retryWait → e.offset ≤ x.offset) :
    r.nextRetry = some e := by
  have hwait (x : FlightEntry) : x.isRetryWait = true ↔ x.status = .retryWait := by
    simp [FlightEntry.isRetryWait_eq]
  obtain ⟨x, hx⟩ : ∃ x, r.nextRetry = some x := by
    rw [← Option.isSome_iff_exists, Channel.nextRetry, List.find?_isSome]
    exact ⟨e, he, (hwait e).2 hw⟩
  obtain ⟨hxw, before, after, hl, hno⟩ := List.find?_eq_some_iff_append.1 hx
  rw [hl, List.mem_append, List.mem_cons] at he
  rcases he with he | rfl | he
  · have := hno e he
    simp [(hwait e).2 hw] at this
  · exact hx
  · rw [hl, List.pairwise_append, List.pairwise_cons] at hp
    obtain ⟨-, ⟨hafter, -⟩, -⟩ := hp
    have hlt : x.offset < e.offset := hafter e he
    have hle : e.offset ≤ x.offset := hmin x (by simp [hl]) ((hwait x).1 hxw)
    omega

/-- With no RETRY_WAIT entry there is none to reissue. -/
theorem nextRetry_eq_none {r : Channel} (h : ∀ e ∈ r.inFlight, e.status ≠ .retryWait) :
    r.nextRetry = none := by
  simpa [Channel.nextRetry, List.find?_eq_none, FlightEntry.isRetryWait_eq] using h

/-- The cursor burst may be issued where it is below the burst count, no skip entry records it and
the in-flight list has room (spec/03 R58). -/
theorem cursorReady_iff (n : Nat) (r : Channel) :
    r.cursorReady n = true ↔
      r.cursor < n ∧ (∀ e ∈ r.skip, e.offset ≠ r.cursor) ∧ r.inFlight.length < 4 := by
  have hnone : (r.skipAt r.cursor).isNone = true ↔ ∀ e ∈ r.skip, e.offset ≠ r.cursor := by
    simp [Channel.skipAt]
  simp only [Channel.cursorReady, Bool.and_eq_true, decide_eq_true_eq, hnone, and_assoc]
  rfl

/-- The command of a grant that the arbiter gives the channel. -/
theorem exec_channelGrant_eq {s : State} {c : Chan} {tag : Tag} (hg : s.grant = some (.chan c))
    (ht : s.lowestFree = some tag) : exec (.channelGrant c) s = .next (s.grantChan c tag) := by
  simp only [exec, execChannelGrant, ht, hg, if_true]

/-- A FILLING channel that is neither paused nor stopped reissues its first retry
(spec/03 R58, R64). -/
theorem grantChan_retry {s : State} {c : Chan} {t : Tile} {e : FlightEntry}
    (hs : (s.chan c).state = .filling t) (hp : (s.chan c).paused = false)
    (hm : s.control.mode ≠ .restarting) (he : (s.chan c).nextRetry = some e) (tag : Tag) :
    s.grantChan c tag = s.reissueRetry c t e.offset tag := by
  simp only [State.grantChan, hs, hp, hm, he, Bool.false_eq_true, or_self, if_false]

/-- With no retry it issues its cursor burst (spec/03 R58). -/
theorem grantChan_cursor {s : State} {c : Chan} {t : Tile} (hs : (s.chan c).state = .filling t)
    (hp : (s.chan c).paused = false) (hm : s.control.mode ≠ .restarting)
    (hno : (s.chan c).nextRetry = none)
    (hr : (s.chan c).cursorReady s.settings.burstCount = true) (tag : Tag) :
    s.grantChan c tag = s.issueCursor c t tag := by
  simp only [State.grantChan, hs, hp, hm, hno, hr, Bool.false_eq_true, or_self, if_false, if_true]

/-- A channel that has no burst to issue leaves its grant unused (spec/03 R58). -/
theorem grantChan_unused {s : State} {c : Chan} (tag : Tag)
    (h : (∃ t, (s.chan c).state = .filling t) → (s.chan c).paused = false →
      s.control.mode ≠ .restarting → (s.chan c).nextRetry = none ∧
        (s.chan c).cursorReady s.settings.burstCount = false) :
    s.grantChan c tag = s.setChan c (s.chan c) := by
  unfold State.grantChan
  split
  · next t hs =>
    split
    · rfl
    · next hstop =>
      rw [not_or, Bool.not_eq_true] at hstop
      obtain ⟨hretry, hready⟩ := h ⟨t, hs⟩ hstop.1 hstop.2
      simp only [hretry, hready, Bool.false_eq_true, if_false]
  · rfl
  · rfl

/-- Settles O46: the retry comes first, then the cursor burst, and else the grant is not used. -/
theorem grantedChannelIssuesAFillWrite : Obligations.GrantedChannelIssuesAFillWrite := by
  intro s c tag hg ht
  rw [exec_channelGrant_eq hg ht]
  refine ⟨fun t hs hp hm => ⟨fun e he hw hmin hasc => ?_, fun hno hcur hlen hskip => ?_⟩,
    fun h => congrArg _ (grantChan_unused tag fun ⟨t, hs⟩ hp hm => ?_)⟩
  · rw [grantChan_retry hs hp hm (nextRetry_eq hasc he hw hmin)]
    rfl
  · rw [grantChan_cursor hs hp hm (nextRetry_eq_none hno)
      ((cursorReady_iff _ _).2 ⟨hcur, hskip, hlen⟩)]
    rfl
  · rcases h with h | h | h | h | ⟨hno, h⟩
    · rw [hs] at h; cases h
    · rw [hs] at h; cases h
    · rw [hp] at h; cases h
    · exact absurd h hm
    · refine ⟨nextRetry_eq_none hno, ?_⟩
      rw [Bool.eq_false_iff, Ne, cursorReady_iff]
      rintro ⟨hcur, hskip, hlen⟩
      rcases h with h | h | ⟨e, he, heq⟩
      · omega
      · omega
      · exact hskip e he heq

/-! ### The step of a cursor -/

/-- The cursor's step takes the entry under it away, and the end of the tile is looked for
(spec/03 R56). -/
theorem exec_cursorStep_eq {s : State} {c : Chan} {t : Tile} {rest : List SkipEntry}
    (hs : (s.chan c).state = .filling t) (hm : s.control.mode ≠ .restarting)
    (hk : (s.chan c).skip = { offset := (s.chan c).cursor, status := .confirmed } :: rest)
    (hasc : ∀ e ∈ rest, (s.chan c).cursor < e.offset) :
    exec (.cursorStep c) s = .next (State.tryComplete
      (s.setChan c { s.chan c with cursor := (s.chan c).cursor + 1, skip := rest }) c) := by
  have hat : (s.chan c).skipAt (s.chan c).cursor =
      some { offset := (s.chan c).cursor, status := .confirmed } := by
    simp [Channel.skipAt, hk]
  have hrest : (s.chan c).skip.filter (fun e => e.offset ≠ (s.chan c).cursor) = rest := by
    simp only [hk, ne_eq, not_true, decide_false, List.filter_cons, Bool.false_eq_true, if_false]
    exact List.filter_eq_self.2 fun e he => decide_eq_true (Nat.ne_of_gt (hasc e he))
  have hfill : (s.chan c).isFilling = true := (Channel.isFilling_iff _).2 ⟨t, hs⟩
  simp only [exec, execCursorStep, hat, hfill, hm, ne_eq, not_false_eq_true, and_self, if_true,
    State.stepCursor, ← hrest]

/-- Settles O48: the step, and then whether the channel stands at its end. -/
theorem cursorStepsOverConfirmedEntry : Obligations.CursorStepsOverConfirmedEntry := by
  intro s c t rest hs ht hm hk hasc
  have hend := Channel.atEnd_iff s.settings.burstCount
    { s.chan c with cursor := (s.chan c).cursor + 1, skip := rest }
  rw [exec_cursorStep_eq hs hm hk hasc]
  refine ⟨fun h => ?_, fun hcur hrest hfl => ?_⟩
  · rw [tryComplete_setChan_of_not_atEnd]
    rw [Bool.eq_false_iff, Ne, hend]
    rintro ⟨hcur, hrest, hfl⟩
    rcases h with h | h | h
    · exact h hcur
    · exact h hrest
    · exact h hfl
  · rw [tryComplete_setChan_of_atEnd
      (r := { s.chan c with cursor := (s.chan c).cursor + 1, skip := rest }) hs
      (hend.2 ⟨hcur, hrest, hfl⟩) hm ht]
    rfl

end Sys2Proof.Machine
end

section
/-! The tag law (spec/06 R138, spec/03 R50, R52, R54): which writes a channel's lists name, and what
each operation of the Fill Engine does to them. -/

namespace Sys2Proof.Machine

/-! ### The writes that a channel's lists name -/

/-- The in-flight list holds a fill write at offset o ISSUED under tag t (spec/03 R54). -/
def Channel.Awaits (r : Channel) (o : Nat) (t : Tag) : Prop :=
  ∃ e ∈ r.inFlight, e.offset = o ∧ e.status = .issued t

/-- The skip list holds a host write at offset o ISSUED under tag t (spec/03 R50). -/
def Channel.Records (r : Channel) (o : Nat) (t : Tag) : Prop :=
  ∃ e ∈ r.skip, e.offset = o ∧ e.status = .issued t

/-- In an ascending in-flight list there is one entry at an offset. -/
theorem flight_unique {l : List FlightEntry} (hp : l.Pairwise fun x y => x.offset < y.offset)
    {a b : FlightEntry} (ha : a ∈ l) (hb : b ∈ l) (h : a.offset = b.offset) : a = b :=
  List.inj_on_of_nodup_map (f := FlightEntry.offset)
    (List.pairwise_map.2 (hp.imp Nat.ne_of_lt)) ha hb h

/-- A channel with nothing in flight awaits nothing. -/
theorem Channel.not_awaits_of_nil {r : Channel} (h : r.inFlight = []) (o : Nat) (t : Tag) :
    ¬ r.Awaits o t := by
  simp [Channel.Awaits, h]

/-- A channel with an empty skip list records nothing. -/
theorem Channel.not_records_of_nil {r : Channel} (h : r.skip = []) (o : Nat) (t : Tag) :
    ¬ r.Records o t := by
  simp [Channel.Records, h]

/-- An entry that leaves the in-flight list takes what is awaited at its offset. -/
theorem Channel.awaits_dropFlight (r : Channel) (o p : Nat) (t : Tag) :
    Channel.Awaits { r with inFlight := dropFlight o r.inFlight } p t ↔ r.Awaits p t ∧ p ≠ o := by
  simp only [Channel.Awaits, dropFlight, List.mem_filter, decide_eq_true_eq]
  constructor
  · rintro ⟨e, ⟨he, hne⟩, rfl, hst⟩
    exact ⟨⟨e, he, rfl, hst⟩, hne⟩
  · rintro ⟨⟨e, he, rfl, hst⟩, hne⟩
    exact ⟨e, ⟨he, hne⟩, rfl, hst⟩

/-- What is awaited after the entry at an offset took a status: at other offsets what was, and at
this one the tag it is now ISSUED under. -/
theorem Channel.awaits_setFlight (r : Channel) (o p : Nat) (a : Attempt) (st : FlightStatus)
    (t : Tag) :
    Channel.Awaits { r with inFlight := setFlight o a st r.inFlight } p t ↔
      (r.Awaits p t ∧ p ≠ o) ∨ (p = o ∧ st = .issued t ∧ ∃ e ∈ r.inFlight, e.offset = o) := by
  simp only [Channel.Awaits, setFlight, List.mem_map]
  constructor
  · rintro ⟨_, ⟨e, he, rfl⟩, hp, hst⟩
    split at hp
    · next ho =>
      rw [if_pos ho] at hst
      exact .inr ⟨hp.symm.trans ho, hst, e, he, ho⟩
    · next ho =>
      rw [if_neg ho] at hst
      exact .inl ⟨⟨e, he, hp, hst⟩, fun h => ho (hp.trans h)⟩
  · rintro (⟨⟨e, he, hp, hst⟩, hne⟩ | ⟨hp, hst, e, he, ho⟩)
    · have ho : e.offset ≠ o := fun h => hne (hp.symm.trans h)
      exact ⟨e, ⟨e, he, if_neg ho⟩, hp, hst⟩
    · exact ⟨_, ⟨e, he, rfl⟩, by simp [ho, hp], by simp [ho, hst]⟩

/-- A RETRY_WAIT entry that is reissued is awaited under its new tag (spec/03 R64). -/
theorem Channel.awaits_reissued {r : Channel} {e : FlightEntry}
    (hp : r.inFlight.Pairwise fun x y => x.offset < y.offset) (he : r.nextRetry = some e)
    (tag : Tag) (o : Nat) (t : Tag) :
    Channel.Awaits { r with inFlight := setFlight e.offset .second (.issued tag) r.inFlight } o t ↔
      r.Awaits o t ∨ (o = e.offset ∧ t = tag) := by
  have hin : e ∈ r.inFlight := List.mem_of_find?_eq_some he
  have hwait : e.status = .retryWait := by
    simpa [FlightEntry.isRetryWait_eq] using List.find?_some he
  have hnone : r.Awaits o t → o ≠ e.offset := by
    rintro ⟨x, hx, hxo, hst⟩ ho
    rw [flight_unique hp hx hin (hxo.trans ho), hwait] at hst
    cases hst
  rw [Channel.awaits_setFlight, FlightStatus.issued.injEq]
  constructor
  · rintro (⟨h, -⟩ | ⟨ho, ht, -⟩)
    · exact .inl h
    · exact .inr ⟨ho, ht.symm⟩
  · rintro (h | ⟨ho, ht⟩)
    · exact .inl ⟨h, hnone h⟩
    · exact .inr ⟨ho, ht.symm, e, hin, rfl⟩

/-- A cursor burst that is issued is awaited under its tag (spec/03 R58). -/
theorem Channel.awaits_cursorIssued (r : Channel) (tag : Tag) (o : Nat) (t : Tag) :
    (r.cursorIssued tag).Awaits o t ↔ r.Awaits o t ∨ (o = r.cursor ∧ t = tag) := by
  simp [Channel.Awaits, Channel.cursorIssued, or_and_right, exists_or, eq_comm]

/-- A channel that settles keeps its lists (spec/03 R77). -/
@[simp] theorem Channel.settled_inFlight (r : Channel) : r.settled.inFlight = r.inFlight := by
  unfold Channel.settled
  split <;> rfl

@[simp] theorem Channel.settled_skip (r : Channel) : r.settled.skip = r.skip := by
  unfold Channel.settled
  split <;> rfl

/-- A channel that cancels awaits what it awaited, and records nothing (spec/03 R76). -/
theorem Channel.awaits_cancelled (r : Channel) (o : Nat) (t : Tag) :
    r.cancelled.Awaits o t ↔ r.Awaits o t := by
  simp only [Channel.Awaits, Channel.cancelled, Channel.settled_inFlight, List.mem_filter,
    FlightEntry.isIssued_eq, decide_eq_true_eq]
  constructor
  · rintro ⟨e, ⟨he, -⟩, h⟩
    exact ⟨e, he, h⟩
  · rintro ⟨e, he, ho, hst⟩
    exact ⟨e, ⟨he, by simp [hst]⟩, ho, hst⟩

theorem Channel.not_records_cancelled (r : Channel) (o : Nat) (t : Tag) :
    ¬ r.cancelled.Records o t :=
  Channel.not_records_of_nil (by simp [Channel.cancelled]) o t

/-- At DISENGAGE a channel keeps what it awaits and records nothing more (spec/03 R75). -/
theorem Channel.awaits_released (r : Channel) (o : Nat) (t : Tag) :
    r.released.Awaits o t ↔ r.Awaits o t := by
  unfold Channel.released
  split
  · exact r.awaits_cancelled o t
  · rfl

theorem Channel.records_of_released {r : Channel} {o : Nat} {t : Tag}
    (h : r.released.Records o t) : r.Records o t := by
  unfold Channel.released at h
  split at h
  · exact absurd h (r.not_records_cancelled o t)
  · exact h

/-- A cursor that steps takes entries away and adds none (spec/03 R56). -/
theorem Channel.records_of_stepped {r : Channel} {o : Nat} {t : Tag} (h : r.stepped.Records o t) :
    r.Records o t := by
  obtain ⟨e, he, h⟩ := h
  exact ⟨e, (List.mem_filter.1 he).1, h⟩

/-- A re-issue records its offset under the new tag, and no other offset anew (spec/03 R51). -/
theorem Channel.records_of_reissueSkip {r : Channel} {o p : Nat} {tag t : Tag}
    (h : Channel.Records { r with skip := reissueSkip o tag r.skip } p t) :
    r.Records p t ∨ (p = o ∧ t = tag) := by
  simp only [Channel.Records, reissueSkip, List.mem_map] at h
  obtain ⟨_, ⟨e, he, rfl⟩, hp, hst⟩ := h
  split at hp
  · next ho =>
    rw [if_pos ho] at hst
    cases hst
    exact .inr ⟨hp.symm.trans ho, rfl⟩
  · next ho =>
    rw [if_neg ho] at hst
    exact .inl ⟨e, he, hp, hst⟩

/-- An insertion records its offset under its tag, and no other offset anew (spec/03 R51). -/
theorem Channel.records_of_insertSkip {r : Channel} {o p : Nat} {tag t : Tag}
    (h : Channel.Records
      { r with skip := insertSkip { offset := o, status := .issued tag } r.skip } p t) :
    r.Records p t ∨ (p = o ∧ t = tag) := by
  obtain ⟨e, he, hp, hst⟩ := h
  rcases List.mem_cons.1 ((insertSkip_perm _ _).mem_iff.1 he) with rfl | he
  · cases hst
    exact .inr ⟨hp.symm, rfl⟩
  · exact .inl ⟨e, he, hp, hst⟩

/-- After its write's outcome the offset is recorded under that tag no more (spec/03 R52). -/
theorem Channel.records_of_settleSkip {r : Channel} {o p : Nat} {tag t : Tag} {ok : Bool}
    (hasc : r.skip.Pairwise fun x y => x.offset < y.offset)
    (h : Channel.Records { r with skip := settleSkip o tag ok r.skip } p t) :
    r.Records p t ∧ ¬ (p = o ∧ t = tag) := by
  obtain ⟨e, he, hp, hst⟩ := h
  have hkept : e ∈ r.skip ∧ ¬ (e.offset = o ∧ e.status = .issued tag) := by
    rw [settleSkip_eq _ _ _ _ hasc] at he
    cases ok
    · simpa [imp_iff_not_or] using he
    · obtain ⟨x, hx, rfl⟩ := List.mem_map.1 he
      split at hst
      · cases hst
      · next hne => rw [if_neg hne]; exact ⟨hx, hne⟩
  refine ⟨⟨e, hkept.1, hp, hst⟩, fun ⟨hpo, ht⟩ => hkept.2 ⟨hp.trans hpo, ?_⟩⟩
  rw [hst, ht]

/-- The skip list of every channel is ascending (spec/03 R50). -/
theorem Channel.ListLaw.skip_ascending {n : Nat} {r : Channel} (h : r.ListLaw n) :
    r.skip.Pairwise fun x y => x.offset < y.offset := by
  obtain hs | ⟨t, hs⟩ | hs := r.state.cases
  · rw [Channel.listLaw_idle hs] at h
    simp [h.2.1]
  · rw [Channel.listLaw_filling hs] at h
    obtain ⟨-, -, hasc, -⟩ := h
    exact hasc
  · rw [Channel.listLaw_cancelling hs] at h
    simp [h.2.1]

/-- The lists of every channel are as the tracking law has them. -/
theorem State.TrackingLaw.lists {s : State} (h : s.TrackingLaw) (c : Chan) :
    (s.chan c).ListLaw s.settings.burstCount := by
  obtain ⟨-, -, hlist, -⟩ := h
  exact hlist c

/-- A channel's request to the arbiter is not part of its lists. -/
@[simp] theorem Channel.awaits_examined (m : Mode) (n : Nat) (r : Channel) (o : Nat) (t : Tag) :
    (r.examined m n).Awaits o t ↔ r.Awaits o t := Iff.rfl

@[simp] theorem Channel.records_examined (m : Mode) (n : Nat) (r : Channel) (o : Nat) (t : Tag) :
    (r.examined m n).Records o t ↔ r.Records o t := Iff.rfl

end Sys2Proof.Machine
end

section
/-! The tag law (spec/06 R138, spec/03 R50, R52, R54): the law tag by tag, and one rule for each way
in which an operation changes a tag or a list. -/

namespace Sys2Proof.Machine

/-! ### The law, tag by tag -/

/-- The entry is IN_USE for a fill write of channel c at offset o (spec/06 R129). -/
def TagEntry.FillsFor (x : TagEntry) (c : Chan) (o : Nat) : Prop :=
  ∃ a d, x = .inUse (.fill a c o) d

/-- The entry is IN_USE for a host request whose skip link names channel c and offset o
(spec/06 R129). -/
def TagEntry.LinkedTo (x : TagEntry) (c : Chan) (o : Nat) : Prop :=
  ∃ k a h d, x = .inUse (.host k a h (some { chan := c, offset := o })) d

/-- The tag law of one tag. -/
def State.TagLawAt (s : State) (t : Tag) : Prop :=
  ∀ (c : Chan) (o : Nat), ((s.tags[t]).FillsFor c o ↔ (s.chan c).Awaits o t) ∧
    ((s.chan c).Records o t → (s.tags[t]).LinkedTo c o)

/-- The tag law is the law of every tag. -/
theorem State.tagLaw_iff (s : State) : s.TagLaw ↔ ∀ t, s.TagLawAt t := by
  constructor
  · rintro ⟨hf, hk⟩ t c o
    refine ⟨hf c o t, ?_⟩
    rintro ⟨e, he, rfl, hst⟩
    exact hk c e he t hst
  · intro h
    refine ⟨fun c o t => (h t c o).1, fun c e he t hst => ?_⟩
    exact (h t c e.offset).2 ⟨e, he, rfl, hst⟩

/-- An entry that is not IN_USE is for no fill write and no linked write. -/
theorem TagEntry.not_for_of_not_inUse {x : TagEntry} (h : x.isInUse = false) (c : Chan) (o : Nat) :
    ¬ x.FillsFor c o ∧ ¬ x.LinkedTo c o := by
  constructor
  · rintro ⟨a, d, rfl⟩
    cases h
  · rintro ⟨k, a, ht, d, rfl⟩
    cases h

/-- No list names a tag that is not IN_USE. -/
theorem State.TagLaw.unnamed {s : State} (h : s.TagLaw) {t : Tag}
    (ht : (s.tags[t]).isInUse = false) (c : Chan) (o : Nat) :
    ¬ (s.chan c).Awaits o t ∧ ¬ (s.chan c).Records o t := by
  obtain ⟨hf, hk⟩ := (s.tagLaw_iff.1 h) t c o
  obtain ⟨hnf, hnk⟩ := TagEntry.not_for_of_not_inUse ht c o
  exact ⟨fun ha => hnf (hf.2 ha), fun hr => hnk (hk hr)⟩

/-! ### Rules for the changes of lists and tags -/

/-- What the tag law reads: the Tag Pool and the channels' lists. -/
def State.tagView (s : State) :
    Vector TagEntry 48 × List FlightEntry × List SkipEntry × List FlightEntry × List SkipEntry :=
  (s.tags, s.chan0.inFlight, s.chan0.skip, s.chan1.inFlight, s.chan1.skip)

/-- The law is kept where the tags stay, every channel awaits what it awaited, and none records more
than it did. -/
theorem State.TagLaw.thin {s u : State} (h : s.TagLaw) (hu : u.tags = s.tags)
    (hf : ∀ c o t, (u.chan c).Awaits o t ↔ (s.chan c).Awaits o t)
    (hk : ∀ c o t, (u.chan c).Records o t → (s.chan c).Records o t) : u.TagLaw := by
  rw [State.tagLaw_iff] at *
  intro t c o
  obtain ⟨h1, h2⟩ := h t c o
  rw [hu, hf]
  exact ⟨h1, fun hr => h2 (hk c o t hr)⟩

/-- The law reads nothing but its view. -/
theorem State.TagLaw.congr {s u : State} (h : s.TagLaw) (he : u.tagView = s.tagView) :
    u.TagLaw := by
  simp only [State.tagView, Prod.mk.injEq] at he
  obtain ⟨ht, hf0, hk0, hf1, hk1⟩ := he
  refine h.thin ht (fun c o t => ?_) fun c o t => ?_ <;> cases c <;>
    simp only [Channel.Awaits, Channel.Records, State.chan_ch0, State.chan_ch1, hf0, hk0, hf1, hk1,
      imp_self]

/-- A channel takes a record that awaits what it awaited and records no more than it did. -/
theorem State.TagLaw.setChan {s : State} (h : s.TagLaw) (c : Chan) {r : Channel}
    (hf : ∀ o t, r.Awaits o t ↔ (s.chan c).Awaits o t)
    (hk : ∀ o t, r.Records o t → (s.chan c).Records o t) : (s.setChan c r).TagLaw := by
  refine h.thin (by simp) (fun k o t => ?_) fun k o t => ?_ <;> rw [State.setChan_get] <;> split
  · next he => subst he; exact hf o t
  · rfl
  · next he => subst he; exact hk o t
  · exact id

/-- The entry of a tag after one entry was set. -/
theorem tags_set_get (v : Vector TagEntry 48) (t k : Tag) (x : TagEntry) :
    (v.set t x)[k] = if k = t then x else v[k] := by
  simp [Vector.getElem_set, Fin.ext_iff, eq_comm]

/-- Where one tag takes an entry, the lists may change in what they name under that tag, and its own
law is to be met. -/
theorem State.TagLaw.retag {s u : State} (h : s.TagLaw) (t : Tag) {x : TagEntry}
    (hu : u.tags = s.tags.set t x)
    (hf : ∀ c o k, k ≠ t → ((u.chan c).Awaits o k ↔ (s.chan c).Awaits o k))
    (hk : ∀ c o k, k ≠ t → (u.chan c).Records o k → (s.chan c).Records o k)
    (ht : u.TagLawAt t) : u.TagLaw := by
  rw [State.tagLaw_iff] at *
  intro k
  by_cases he : k = t
  · exact he ▸ ht
  · intro c o
    obtain ⟨h1, h2⟩ := h k c o
    rw [hu, tags_set_get, if_neg he, hf c o k he]
    exact ⟨h1, fun hr => h2 (hk c o k he hr)⟩

/-- A tag stops being IN_USE where the lists lose what they named under it, and nothing else. -/
theorem State.TagLaw.settle {s u : State} (h : s.TagLaw) {t : Tag} {x : TagEntry}
    (hx : x.isInUse = false) (hu : u.tags = s.tags.set t x)
    (hf : ∀ c o k, (u.chan c).Awaits o k ↔ (s.chan c).Awaits o k ∧ k ≠ t)
    (hk : ∀ c o k, (u.chan c).Records o k → (s.chan c).Records o k ∧ k ≠ t) : u.TagLaw := by
  refine h.retag t hu (fun c o k he => ?_) (fun c o k _ hr => (hk c o k hr).1) fun c o => ?_
  · rw [hf]
    exact and_iff_left he
  · have hget : u.tags[t] = x := by rw [hu, tags_set_get, if_pos rfl]
    rw [hget]
    obtain ⟨hnf, -⟩ := TagEntry.not_for_of_not_inUse hx c o
    exact ⟨iff_of_false hnf fun ha => ((hf c o t).1 ha).2 rfl, fun hr => absurd rfl (hk c o t hr).2⟩

/-- A QUARANTINED tag becomes FREE (spec/06 R141). -/
theorem State.TagLaw.setTag {s : State} (h : s.TagLaw) {t : Tag} {x : TagEntry}
    (ht : (s.tags[t]).isInUse = false) (hx : x.isInUse = false) : (s.setTag t x).TagLaw := by
  have hne (c : Chan) (o : Nat) (k : Tag)
      (hin : (s.chan c).Awaits o k ∨ (s.chan c).Records o k) : k ≠ t := by
    rintro rfl
    obtain ⟨ha, hr⟩ := h.unnamed ht c o
    exact hin.elim ha hr
  refine h.settle hx rfl (fun c o k => ?_) fun c o k => ?_ <;> rw [State.setTag_chan]
  · exact ⟨fun ha => ⟨ha, hne c o k (.inl ha)⟩, fun ha => ha.1⟩
  · exact fun hr => ⟨hr, hne c o k (.inr hr)⟩

/-- With no tag IN_USE the law asks that the lists name none. -/
theorem State.tagLaw_of_noneInUse {s : State} (ht : ∀ t : Tag, (s.tags[t]).isInUse = false)
    (hf : ∀ c, (s.chan c).inFlight = []) (hk : ∀ c, (s.chan c).skip = []) : s.TagLaw := by
  rw [State.tagLaw_iff]
  intro t c o
  refine ⟨iff_of_false (TagEntry.not_for_of_not_inUse (ht t) c o).1 ?_, fun hr => ?_⟩
  · exact Channel.not_awaits_of_nil (hf c) o t
  · exact absurd hr (Channel.not_records_of_nil (hk c) o t)

end Sys2Proof.Machine
end

section
/-! The tag law (spec/06 R138, spec/03 R52, R54): the outcomes of downstream writes, which take a
name out of a list, and their issue, which puts one in. -/

namespace Sys2Proof.Machine

/-! ### Outcomes -/

/-- A claim of completion changes one channel, which awaits what it awaited: a channel at its end
awaits nothing (spec/03 R67). -/
theorem tryComplete_chan (s : State) (c : Chan) :
    ∃ r, (∀ k, (s.tryComplete c).chan k = if k = c then r else s.chan k) ∧
      (∀ o t, r.Awaits o t ↔ (s.chan c).Awaits o t) ∧
      ∀ o t, r.Records o t → (s.chan c).Records o t := by
  rcases tryComplete_cases s c with ⟨t, -, -, hend, -, he⟩ | he
  · obtain ⟨-, -, hnil⟩ := (Channel.atEnd_iff _ _).1 hend
    refine ⟨(s.chan c).finished.examined s.control.mode s.settings.burstCount, fun k => ?_,
      fun o u => ?_, fun o u hr => ?_⟩
    · rw [he, State.post_chan, State.setChan_get]
      simp
    · exact iff_of_false (Channel.not_awaits_of_nil rfl o u) (Channel.not_awaits_of_nil hnil o u)
    · exact absurd hr (Channel.not_records_of_nil rfl o u)
  · refine ⟨s.chan c, fun k => ?_, fun _ _ => Iff.rfl, fun _ _ => id⟩
    rw [he]
    split
    · next hk => rw [hk]
    · rfl

/-- A claim of completion keeps the law. -/
theorem State.TagLaw.tryComplete {s : State} (h : s.TagLaw) (c : Chan) :
    (s.tryComplete c).TagLaw := by
  obtain ⟨r, hchan, hf, hk⟩ := tryComplete_chan s c
  refine h.thin (by simp) (fun k o t => ?_) fun k o t => ?_ <;> rw [hchan] <;> split
  · next he => subst he; exact hf o t
  · rfl
  · next he => subst he; exact hk o t
  · exact id

/-- The channel's new record r' awaits what r does but for offset o, and records no more. -/
def Channel.Loses (r : Channel) (o : Nat) (r' : Channel) : Prop :=
  (∀ p t, r'.Awaits p t ↔ r.Awaits p t ∧ p ≠ o) ∧ ∀ p t, r'.Records p t → r.Records p t

/-- The outcome of a fill write takes it from what its channel awaits, whatever else it brings
about (spec/03 R61, R62, R65, R66, R78). -/
theorem handFill_chan {s : State} (h : s.TrackingLaw) {c : Chan} {o : Nat} {t : Tag}
    {e : FlightEntry} (he : (s.chan c).flightOf o t = some e) (ok : Bool) :
    ∃ r, (s.chan c).Loses o r ∧
      ∀ k, (s.handFill c o t ok).chan k = if k = c then r else s.chan k := by
  obtain ⟨-, hfill, -⟩ := h
  have hdrop := (s.chan c).awaits_dropFlight o
  have hset {u : State} {r : Channel} (hr : (s.chan c).Loses o r)
      (hu : ∀ k, u.chan k = (s.setChan c r).chan k) :
      ∃ r, (s.chan c).Loses o r ∧ ∀ k, u.chan k = if k = c then r else s.chan k :=
    ⟨r.examined s.control.mode s.settings.burstCount, hr,
      fun k => (hu k).trans (s.setChan_get c k r)⟩
  have hignore : ∃ r, (s.chan c).Loses o r ∧
      ∀ k, (s.ignoreFill c o).chan k = if k = c then r else s.chan k := by
    refine hset ⟨fun p u => ?_, fun p u => ?_⟩ fun k => rfl
    · rw [← hdrop, Channel.Awaits, Channel.settled_inFlight]
      rfl
    · rw [Channel.Records, Channel.settled_skip]
      exact id
  simp only [State.handFill, he]
  split
  · exact hignore
  · split
    · exact hignore
    · exact hignore
    · next tile hk =>
      split
      · obtain ⟨r, hchan, hf, hr⟩ := tryComplete_chan (s.setChan c
          { s.chan c with inFlight := dropFlight o (s.chan c).inFlight }) c
        rw [State.setChan_chan] at hf hr
        refine ⟨r, ⟨fun p u => (hf p u).trans (hdrop p u), hr⟩, fun k => ?_⟩
        rw [hchan, State.setChan_get]
        split <;> rfl
      · split
        · refine hset (r := { s.chan c with inFlight := setFlight o .second .retryWait _ })
            ⟨fun p u => ?_, fun p u => id⟩ fun k => State.post_chan ..
          rw [Channel.awaits_setFlight]
          simp
        · rw [State.failTile, if_pos ((hfill c tile).1 hk)]
          refine hset ⟨fun p u => (Channel.awaits_cancelled _ p u).trans (hdrop p u), fun p u hr =>
            absurd hr (Channel.not_records_cancelled _ p u)⟩ fun k => ?_
          rw [State.post_chan, State.setChan_get, State.setChan_get, State.setTile_chan]
          rfl

/-- The one fill write that a tag IN_USE for one is awaited as, and no list records it. -/
theorem State.TagLaw.named_fill {s : State} (h : s.TagLaw) {t : Tag} {a : Addr} {c : Chan}
    {o : Nat} {d : Micros} (ht : s.tags[t] = .inUse (.fill a c o) d) {k : Chan} {p : Nat} :
    ((s.chan k).Awaits p t → k = c ∧ p = o) ∧ ¬ (s.chan k).Records p t := by
  obtain ⟨hf, hk⟩ := (s.tagLaw_iff.1 h) t k p
  rw [ht] at hf hk
  constructor
  · intro ha
    obtain ⟨_, _, he⟩ := hf.2 ha
    cases he
    exact ⟨rfl, rfl⟩
  · intro hr
    obtain ⟨_, _, _, _, he⟩ := hk hr
    cases he

/-- No channel awaits a tag IN_USE for a host request, and it is recorded where its skip link
says. -/
theorem State.TagLaw.named_host {s : State} (h : s.TagLaw) {t : Tag} {k : Kind} {a : Addr}
    {ht : HostTag} {l : Option SkipLink} {d : Micros}
    (htag : s.tags[t] = .inUse (.host k a ht l) d) {c : Chan} {p : Nat} :
    ¬ (s.chan c).Awaits p t ∧
      ((s.chan c).Records p t → l = some { chan := c, offset := p }) := by
  obtain ⟨hf, hk⟩ := (s.tagLaw_iff.1 h) t c p
  rw [htag] at hf hk
  constructor
  · intro ha
    obtain ⟨_, _, he⟩ := hf.2 ha
    cases he
  · intro hr
    obtain ⟨_, _, _, _, he⟩ := hk hr
    cases he
    rfl

/-- A fill write's outcome, once its tag stopped being IN_USE, restores the law (spec/06 R138,
R140). -/
theorem State.TagLaw.handFill {s u : State} (h : s.TagLaw) (htr : s.TrackingLaw) {t : Tag}
    {a : Addr} {c : Chan} {o : Nat} {d : Micros} (ht : s.tags[t] = .inUse (.fill a c o) d)
    {x : TagEntry} (hx : x.isInUse = false) (hu : u.tags = s.tags.set t x)
    (hseen : u.tracked = s.tracked) {ok : Bool} : (u.handFill c o t ok).TagLaw := by
  have hchan : ∀ k, u.chan k = s.chan k := by
    simp only [State.tracked, Prod.mk.injEq] at hseen
    obtain ⟨-, -, h0, h1, -⟩ := hseen
    exact State.chan_congr h0 h1
  obtain ⟨hasc, -⟩ := (htr.lists c).flights
  obtain ⟨e, he, heo, hst⟩ := ((s.tagLaw_iff.1 h) t c o).1.1 ⟨a, d, ht⟩
  have hflight : (u.chan c).flightOf o t = some e := by
    rw [hchan]
    exact flightOf_eq ⟨ht, he, heo, hst, hasc⟩
  obtain ⟨r, ⟨hf, hk⟩, hr⟩ := handFill_chan (htr.congr hseen) hflight ok
  refine h.settle hx (by simpa using hu) (fun k p v => ?_) fun k p v hrec => ?_
  · rw [hr]
    split
    · next hkc =>
      subst hkc
      rw [hf, hchan]
      refine and_congr_right fun ha => not_congr ⟨fun hp => ?_, fun hv => ?_⟩
      · obtain ⟨y, hy, hyp, hyv⟩ := ha
        rw [flight_unique hasc hy he (by rw [hyp, hp, heo]), hst] at hyv
        cases hyv
        rfl
      · exact ((h.named_fill ht).1 (hv ▸ ha)).2
    · next hkc =>
      rw [hchan]
      refine ⟨fun ha => ⟨ha, fun hv => hkc ((h.named_fill ht).1 (hv ▸ ha)).1⟩, fun ha => ha.1⟩
  · have hrs : (s.chan k).Records p v := by
      rw [hr] at hrec
      split at hrec
      · next hkc => subst hkc; exact hchan k ▸ hk p v hrec
      · exact hchan k ▸ hrec
    exact ⟨hrs, fun hv => (h.named_fill ht).2 (hv ▸ hrs)⟩

/-- A host request's outcome, once its tag stopped being IN_USE, restores the law (spec/03 R52,
spec/06 R137, R139). -/
theorem State.TagLaw.handSkip {s u : State} (h : s.TagLaw) (htr : s.TrackingLaw) {t : Tag}
    {k : Kind} {a : Addr} {ht : HostTag} {l : Option SkipLink} {d : Micros}
    (htag : s.tags[t] = .inUse (.host k a ht l) d) {x : TagEntry} (hx : x.isInUse = false)
    (hu : u.tags = s.tags.set t x) (hchan : ∀ c, u.chan c = s.chan c) {ok : Bool} :
    (u.handSkip l t ok).TagLaw := by
  have hawaits (c : Chan) (p : Nat) (v : Tag) :
      ((u.handSkip l t ok).chan c).Awaits p v ↔ (s.chan c).Awaits p v := by
    cases l with
    | none => rw [State.handSkip, hchan]
    | some l =>
      rw [State.handSkip, State.setChan_get]
      split
      · next hc => subst hc; rw [← hchan]; rfl
      · rw [hchan]
  have hrecords (c : Chan) (p : Nat) (v : Tag) (hr : ((u.handSkip l t ok).chan c).Records p v) :
      (s.chan c).Records p v ∧ ¬ (l = some { chan := c, offset := p } ∧ v = t) := by
    cases l with
    | none =>
      rw [State.handSkip, hchan] at hr
      exact ⟨hr, by simp⟩
    | some l =>
      rw [State.handSkip, State.setChan_get] at hr
      split at hr
      · next hc =>
        subst hc
        rw [hchan, Channel.records_examined] at hr
        obtain ⟨hr, hne⟩ := Channel.records_of_settleSkip (htr.lists l.chan).skip_ascending hr
        refine ⟨hr, fun ⟨hl, hv⟩ => hne ⟨?_, hv⟩⟩
        rw [Option.some.inj hl]
      · next hc =>
        rw [hchan] at hr
        refine ⟨hr, fun ⟨hl, _⟩ => hc ?_⟩
        rw [Option.some.inj hl]
  refine h.settle hx (by simpa using hu) (fun c p v => ?_) fun c p v hr => ?_
  · rw [hawaits]
    exact ⟨fun ha => ⟨ha, fun hv => (h.named_host htag).1 (hv ▸ ha)⟩, fun ha => ha.1⟩
  · obtain ⟨hr, hne⟩ := hrecords c p v hr
    exact ⟨hr, fun hv => hne ⟨(h.named_host htag).2 (hv ▸ hr), hv⟩⟩

/-! ### Issues -/

/-- A fill write is issued under a FREE tag and awaited there (spec/03 R58, R64). -/
theorem State.TagLaw.issueFill {s : State} (h : s.TagLaw) {tag : Tag}
    (hfree : s.tags[tag] = .free) (c : Chan) (t : Tile) (o : Nat) {r : Channel}
    (hf : ∀ p v, r.Awaits p v ↔ (s.chan c).Awaits p v ∨ (p = o ∧ v = tag))
    (hk : r.skip = (s.chan c).skip) : ((s.issueFill c t o tag).setChan c r).TagLaw := by
  have hchan (k : Chan) : ((s.issueFill c t o tag).setChan c r).chan k =
      if k = c then r.examined s.control.mode s.settings.burstCount else s.chan k := by
    rw [State.setChan_get]
    cases k <;> rfl
  have hunnamed := h.unnamed (t := tag) (by rw [hfree]; rfl)
  have hrecords (k : Chan) (p : Nat) (v : Tag)
      (hr : (((s.issueFill c t o tag).setChan c r).chan k).Records p v) :
      (s.chan k).Records p v := by
    rw [hchan] at hr
    split at hr
    · next he => subst he; rwa [Channel.records_examined, Channel.Records, hk] at hr
    · exact hr
  have htags : ((s.issueFill c t o tag).setChan c r).tags = s.tags.set tag
      (.inUse (.fill (fillAddr s.settings t o) c o) (s.now + s.settings.respTimeout)) := by
    rw [State.setChan_tags]
    rfl
  refine h.retag tag htags (fun k p v hv => ?_) (fun k p v _ => hrecords k p v) fun k p => ⟨?_, ?_⟩
  · rw [hchan]
    split
    · next he => subst he; simp [hf, hv]
    · rfl
  · rw [htags, tags_set_get, if_pos rfl, hchan]
    constructor
    · rintro ⟨a, d, he⟩
      cases he
      rw [if_pos rfl]
      exact (hf o tag).2 (.inr ⟨rfl, rfl⟩)
    · intro ha
      split at ha
      · next he =>
        subst he
        rcases (hf p tag).1 ha with ha | ⟨rfl, -⟩
        · exact absurd ha (hunnamed k p).1
        · exact ⟨_, _, rfl⟩
      · exact absurd ha (hunnamed k p).1
  · exact fun hr => absurd (hrecords k p tag hr) (hunnamed k p).2

/-- What a channel does with its grant keeps the law (spec/03 R58, R64). -/
theorem State.TagLaw.grantChan {s : State} (h : s.TagLaw) (htr : s.TrackingLaw) (c : Chan)
    {tag : Tag} (hfree : s.tags[tag] = .free) : (s.grantChan c tag).TagLaw := by
  have hself : (s.setChan c (s.chan c)).TagLaw := h.setChan c (fun _ _ => Iff.rfl) fun _ _ => id
  unfold State.grantChan
  split
  · next t _ =>
    split
    · exact hself
    · split
      · next e he =>
        obtain ⟨hasc, -⟩ := (htr.lists c).flights
        exact h.issueFill hfree c t e.offset (Channel.awaits_reissued hasc he tag) rfl
      · split
        · exact h.issueFill hfree c t _ (r := (s.chan c).cursorIssued tag)
            ((s.chan c).awaits_cursorIssued tag) rfl
        · exact hself
  · exact hself
  · exact hself

/-- The effect of an issue changes no in-flight list. -/
theorem State.issueEffect_awaits (s : State) (tag : Tag) (how : IssueForm) (c : Chan) (o : Nat)
    (t : Tag) : ((s.issueEffect tag how).chan c).Awaits o t ↔ (s.chan c).Awaits o t := by
  have hset (k : Chan) {r : Channel} (hr : r.inFlight = (s.chan k).inFlight) :
      ((s.setChan k r).chan c).Awaits o t ↔ (s.chan c).Awaits o t := by
    rw [State.setChan_get]
    split
    · next he => subst he; rw [Channel.awaits_examined, Channel.Awaits, hr]; rfl
    · rfl
  cases how with
  | plain => rfl
  | writeClaim k => rw [State.issueEffect, State.setTile_chan]
  | reissue k p => exact hset k rfl
  | insert k p => exact hset k rfl

/-- The effect of an issue records at most its skip link under its tag (spec/03 R51). -/
theorem State.records_of_issueEffect {s : State} {tag : Tag} {how : IssueForm} {c : Chan} {o : Nat}
    {t : Tag} (h : ((s.issueEffect tag how).chan c).Records o t) :
    (s.chan c).Records o t ∨ (t = tag ∧ how.link = some { chan := c, offset := o }) := by
  have hset {k : Chan} {p : Nat} {r : Channel}
      (hr : r.Records o t → (s.chan k).Records o t ∨ (o = p ∧ t = tag))
      (hs : ((s.setChan k r).chan c).Records o t) : (s.chan c).Records o t ∨
        (t = tag ∧ (some { chan := k, offset := p } : Option SkipLink) =
          some { chan := c, offset := o }) := by
    rw [State.setChan_get] at hs
    split at hs
    · next he =>
      subst he
      exact (hr hs).imp_right fun ⟨ho, ht⟩ => ⟨ht, by rw [ho]⟩
    · exact .inl hs
  cases how with
  | plain => exact .inl h
  | writeClaim k => rw [State.issueEffect, State.setTile_chan] at h; exact .inl h
  | reissue k p => exact hset Channel.records_of_reissueSkip h
  | insert k p => exact hset Channel.records_of_insertSkip h

@[simp] theorem State.issueEffect_tags (s : State) (tag : Tag) (how : IssueForm) :
    (s.issueEffect tag how).tags = s.tags := by
  cases how <;> simp [State.issueEffect]

/-- A host request is issued under a FREE tag, and recorded there where it has a skip link
(spec/03 R51, spec/06 R129). -/
theorem State.TagLaw.issueEffect {s u : State} (h : s.TagLaw) {tag : Tag}
    (hfree : s.tags[tag] = .free) (how : IssueForm) {k : Kind} {a : Addr} {ht : HostTag}
    {d : Micros} (hu : u.tags = s.tags.set tag (.inUse (.host k a ht how.link) d))
    (hchan : ∀ c, u.chan c = s.chan c) : (u.issueEffect tag how).TagLaw := by
  have hunnamed := h.unnamed (t := tag) (by rw [hfree]; rfl)
  have htags := (u.issueEffect_tags tag how).trans hu
  refine h.retag tag htags (fun c o v _ => ?_) (fun c o v hv hr => ?_) fun c o => ⟨?_, fun hr => ?_⟩
  · rw [State.issueEffect_awaits, hchan]
  · rcases State.records_of_issueEffect hr with hr | ⟨hv', -⟩
    · exact hchan c ▸ hr
    · exact absurd hv' hv
  · rw [htags, tags_set_get, if_pos rfl, State.issueEffect_awaits, hchan]
    refine iff_of_false ?_ (hunnamed c o).1
    rintro ⟨_, _, he⟩
    cases he
  · rw [htags, tags_set_get, if_pos rfl]
    rcases State.records_of_issueEffect hr with hr | ⟨-, hl⟩
    · exact absurd (hchan c ▸ hr) (hunnamed c o).2
    · rw [hl]
      exact ⟨_, _, _, _, rfl⟩

/-- The head's issue keeps the law (spec/02 R44). -/
theorem State.TagLaw.issueHead {s : State} (h : s.TagLaw) {tag : Tag}
    (hfree : s.tags[tag] = .free) (r : HostRequest) (how : IssueForm) :
    (s.issueHead r tag how).TagLaw := by
  have hpass : ∃ l, s.passHead = { s with link := l } := by
    unfold State.passHead
    split <;> exact ⟨_, rfl⟩
  obtain ⟨l, hl⟩ := hpass
  rw [State.issueHead, hl]
  refine State.TagLaw.congr (s := State.issueEffect _ tag how) ?_ rfl
  exact h.issueEffect hfree how rfl (State.chan_congr rfl rfl)

end Sys2Proof.Machine
end

section
/-! Every step keeps the tag law (O7): the settling of what waits, the commands, and the
settlement. -/

namespace Sys2Proof.Machine

/-! ### Operations that leave the tags and the lists -/

@[simp] theorem State.flush_tagView (s : State) (st : HostStatus) :
    (s.flush st).tagView = s.tagView := by
  simp only [State.flush, respondAll_eq]
  rfl

@[simp] theorem State.examineChans_tagView (s : State) : s.examineChans.tagView = s.tagView := rfl

@[simp] theorem State.startDrain_tagView (s : State) : s.startDrain.tagView = s.tagView := by
  unfold State.startDrain
  split <;> rfl

@[simp] theorem State.settleDrain_tagView (s : State) : s.settleDrain.tagView = s.tagView := by
  unfold State.settleDrain
  split
  · simp [State.tagView]
  · rfl

@[simp] theorem State.settleDisengage_tagView (s : State) :
    s.settleDisengage.tagView = s.tagView := by
  unfold State.settleDisengage
  split
  · exact State.settleDrain_tagView _
  · rfl

@[simp] theorem State.reachDirective_tagView (s : State) :
    s.reachDirective.tagView = s.tagView := by
  obtain ⟨d, he⟩ := s.reachDirective_eq
  rw [he]
  rfl

theorem State.handArrival_tagView (s : State) (r : HostRequest) :
    (s.handArrival r).tagView = s.tagView := by
  unfold State.handArrival
  (repeat' split) <;> rfl

theorem State.receive_tagView (s : State) (r : HostRequest) :
    (s.receive r).tagView = s.tagView := by
  unfold State.receive
  dsimp only
  split
  · rfl
  · exact State.handArrival_tagView _ r

theorem State.settleHead_tagView (s : State) (r : HostRequest) (d : Decision) :
    (s.settleHead r d).tagView = s.tagView := by
  cases d with
  | answer st data n =>
    cases n <;> simp [State.settleHead, State.answerHead, State.postSome, State.tagView]
  | forward how => rfl
  | wait => rfl
  | claim c => cases c <;> rfl

theorem State.takeQueueAtHead_tagView (s : State) (t : Tile) :
    (s.takeQueueAtHead t).tagView = s.tagView := by
  unfold State.takeQueueAtHead
  split <;> rfl

theorem State.entered_tagView (s : State) : s.entered.tagView = s.tagView := by
  unfold State.entered
  dsimp only
  split <;> simp [State.tagView]

theorem State.exited_tagView (s : State) : s.exited.tagView = s.tagView :=
  State.startDrain_tagView _

theorem State.halted_tagView (s : State) : s.halted.tagView = s.tagView :=
  State.flush_tagView _ _

theorem State.slpFell_tagView (s : State) : s.slpFell.tagView = s.tagView := by
  unfold State.slpFell
  dsimp only
  split <;> rfl

theorem State.raiseSelect_tagView (s : State) : s.raiseSelect.tagView = s.tagView := by
  unfold State.raiseSelect
  split <;> rfl

theorem State.takeDone_tagView (s : State) (wanted : RetState) {matched : State → State}
    (hm : ∀ u : State, (matched u).tagView = u.tagView) :
    (s.takeDone wanted matched).tagView = s.tagView := by
  unfold State.takeDone
  split
  · dsimp only
    split
    · exact (hm _).trans s.settleDrain_tagView
    · exact s.settleDrain_tagView
  · rfl

theorem State.acceptEngage_tagView (s : State) (option : Byte) :
    (s.acceptEngage option).tagView = s.tagView := by
  unfold State.acceptEngage
  split <;> rfl

theorem State.prepareTile_tagView (s : State) (t : Tile) :
    (s.prepareTile t).1.tagView = s.tagView := by
  unfold State.prepareTile
  split <;> rfl

theorem State.adoptTile_tagView (s : State) (t : Tile) :
    (s.adoptTile t).1.tagView = s.tagView := by
  unfold State.adoptTile
  split <;> rfl

/-! ### What the settling of a tag completes -/

/-- The RESTART clear finds no tag IN_USE and leaves the lists empty (spec/10 R206). -/
theorem State.TagLaw.settleRestart {s : State} (h : s.TagLaw) : s.settleRestart.TagLaw := by
  unfold State.settleRestart
  split
  · next hc =>
    refine State.TagLaw.congr (State.tagLaw_of_noneInUse ?_ ?_ ?_) (State.startDrain_tagView _)
    · exact (noneInUse_iff s).1 hc.2
    · rintro (_ | _) <;> rfl
    · rintro (_ | _) <;> rfl
  · exact h

theorem State.TagLaw.settleTag {s : State} (h : s.TagLaw) : s.settleTag.TagLaw := by
  unfold State.settleTag
  split
  · exact h.settleRestart
  · exact h.congr s.settleDisengage_tagView
  · exact h.congr s.settleDrain_tagView
  · exact h.congr s.settleDrain_tagView
  · exact h

/-- Hard reset frees every tag and empties the lists (spec/12 R213). -/
theorem State.tagLaw_hardReset (s : State) : s.hardReset.TagLaw := by
  refine State.tagLaw_of_noneInUse (fun t => ?_) ?_ ?_
  · simp [State.hardReset, State.reset, TagEntry.isInUse]
  · rintro (_ | _) <;> rfl
  · rintro (_ | _) <;> rfl

/-! ### The memory link -/

/-- A response that is taken keeps the law (spec/06 R136 to R141). -/
theorem State.TagLaw.takeResponse {s : State} (h : s.TagLaw) (htr : s.TrackingLaw) (t : Tag)
    (st : MemStatus) (data : Burst) : (s.takeResponse t st data).TagLaw := by
  unfold State.takeResponse
  split
  · exact h.congr rfl
  · next ht =>
    have hfree : (s.setTag t .free).TagLaw := h.setTag (by rw [ht]; rfl) rfl
    exact hfree.congr rfl
  · next ht =>
    refine State.TagLaw.settleTag (h.handSkip htr ht (x := .free) rfl ?_ ?_)
    · rfl
    · exact State.chan_congr rfl rfl
  · next ht =>
    refine State.TagLaw.settleTag (h.handFill htr ht (x := .free) rfl ?_ ?_) <;> rfl

theorem execResponseTimeout_keeps_tags {s t : State} (h : s.TagLaw) (htr : s.TrackingLaw)
    (tag : Tag) (he : execResponseTimeout tag s = .next t) : t.TagLaw := by
  refine next_inj ?_ he
  split
  · next k a ht l d htag =>
    split
    · refine State.TagLaw.settleTag
        (h.handSkip htr htag (x := .quarantined (.host k a ht l)) rfl ?_ ?_)
      · rfl
      · exact State.chan_congr rfl rfl
    · exact h
  · exact h
  · exact h
  · exact h

theorem execFillWriteTimeout_keeps_tags {s t : State} (h : s.TagLaw) (htr : s.TrackingLaw)
    (tag : Tag) (he : execFillWriteTimeout tag s = .next t) : t.TagLaw := by
  refine next_inj ?_ he
  split
  · next a c o d htag =>
    split
    · refine State.TagLaw.settleTag
        (h.handFill htr htag (x := .quarantined (.fill a c o)) rfl ?_ ?_) <;> rfl
    · exact h
  · exact h
  · exact h
  · exact h

/-! ### The Dispatch Unit and the Fill Engine -/

/-- What the head does with its grant keeps the law (spec/02 R29). -/
theorem State.TagLaw.grantHead {s : State} (h : s.TagLaw) (r : HostRequest) {t : Tag}
    (hfree : s.tags[t] = .free) : (s.grantHead r t).TagLaw := by
  by_cases hf : ∃ how, classify s r = .forward how
  · obtain ⟨how, hc⟩ := hf
    simp only [State.grantHead, hc]
    exact h.issueHead hfree r how
  · rw [grantHead_eq_settleHead t fun how hc => hf ⟨how, hc⟩]
    exact h.congr (s.settleHead_tagView r _)

/-- A fill starts on an IDLE channel, whose lists are empty (spec/01 R8, spec/03 R47). -/
theorem State.TagLaw.startFill {s : State} (h : s.TagLaw) (htr : s.TrackingLaw) {c : Chan}
    (hc : (s.chan c).state = .idle) (t : Tile) : (s.startFill t c).TagLaw := by
  have htile : (s.setTile t (.filling c)).TagLaw := h.congr rfl
  obtain ⟨-, -, hnil⟩ := (Channel.listLaw_idle hc).1 (htr.lists c)
  refine htile.setChan c (fun o k => ?_) fun o k hr => ?_
  · rw [State.setTile_chan]
    exact iff_of_false (Channel.not_awaits_of_nil rfl o k) (Channel.not_awaits_of_nil hnil o k)
  · exact absurd hr (Channel.not_records_of_nil rfl o k)

theorem execFillStart_keeps_tags {s t : State} (h : s.TagLaw) (htr : s.TrackingLaw)
    (he : execFillStart s = .next t) : t.TagLaw := by
  refine next_inj ?_ he
  split
  · next k c _ =>
    have hstart (d : Chan) (hi : (s.chan d).isIdle = true) : (s.startFill k d).dropHead.TagLaw := by
      have hs := h.startFill htr (by simpa [Channel.isIdle] using hi) k
      exact hs.congr rfl
    split
    · split
      · split
        · next hi => exact hstart c hi
        · split
          · next hi => exact hstart (otherChan c) hi
          · exact h.congr rfl
      · exact h.congr rfl
    · exact h
  · exact h
  · exact h
  · exact h

theorem execTake_keeps_tags {s t : State} (h : s.TagLaw) (htr : s.TrackingLaw) (c : Chan)
    (he : execTake c s = .next t) : t.TagLaw := by
  refine next_inj ?_ he
  split
  · exact h
  · next k rest _ =>
    split
    · next hc =>
      obtain ⟨hidle, -⟩ := (canTake_iff s c).1 (canTake_of_mayTake hc.1)
      exact (h.startFill htr hidle k).congr rfl
    · exact h

theorem execCursorStep_keeps_tags {s t : State} (h : s.TagLaw) (c : Chan)
    (he : execCursorStep c s = .next t) : t.TagLaw := by
  refine next_inj ?_ he
  split
  · split
    · exact (h.setChan c (r := (s.chan c).stepped) (fun _ _ => Iff.rfl)
        fun _ _ => Channel.records_of_stepped).tryComplete c
    · exact h
  · exact h

/-! ### The management port and the long commands -/

/-- A command that is taken keeps the law where its event does (spec/09 R176). -/
theorem State.TagLaw.takeCommand {s : State} (h : s.TagLaw) (t : Nat) {after : State}
    (ha : after.TagLaw) (reply : List Byte) : (s.takeCommand t after reply).TagLaw := by
  unfold State.takeCommand
  split
  · exact ha.congr rfl
  · exact h

/-- A long command keeps the law where its acceptance does (spec/09 R175, R185). -/
theorem State.TagLaw.takeLong {s : State} (h : s.TagLaw) (c : LongCmd) (t : Nat)
    {why : Option Reason} {accepted : State} (ha : accepted.TagLaw) :
    (s.takeLong c t why accepted).TagLaw := by
  unfold State.takeLong
  split
  · split
    · exact h.congr rfl
    · refine h.takeCommand t ?_ _
      split
      · exact h.congr rfl
      · exact ha
  · exact h

/-- The acceptance of DISENGAGE leaves the channels awaiting what they awaited (spec/10 R202). -/
theorem State.TagLaw.acceptDisengage {s : State} (h : s.TagLaw) : s.acceptDisengage.TagLaw := by
  have hchan (c : Chan) : s.disengaging.chan c =
      (s.chan c).released.examined .disengaging s.settings.burstCount := by
    cases c <;> rfl
  rw [acceptDisengage_eq]
  refine State.TagLaw.congr (s := s.disengaging) ?_ (State.settleDisengage_tagView _)
  refine h.thin (by simp only [State.disengaging]) (fun c o t => ?_) fun c o t => ?_ <;> rw [hchan]
  · exact Channel.awaits_released _ o t
  · exact Channel.records_of_released

/-- The acceptance of RESTART stops the channels with their lists as they are (spec/10 R204). -/
theorem State.TagLaw.acceptRestart {s : State} (h : s.TagLaw) : s.acceptRestart.TagLaw := by
  have hview (u : State) : (u.flush .aborted).examineChans.tagView = u.tagView :=
    (State.examineChans_tagView _).trans (u.flush_tagView _)
  refine State.TagLaw.settleRestart (State.TagLaw.congr (s := s) h ?_)
  rw [hview]
  rfl

/-- A discard claim cancels the channel of a FILLING tile (spec/01 R13, spec/03 R76). -/
theorem State.TagLaw.discardTile {s : State} (h : s.TagLaw) (t : Tile) :
    (s.discardTile t).1.TagLaw := by
  have hset (x : TileState) : (s.setTile t x).TagLaw := h.congr rfl
  unfold State.discardTile
  split
  · exact hset _
  · exact h.congr rfl
  · next c _ =>
    refine (hset _).setChan c (fun o k => ?_) fun o k hr => ?_
    · exact Channel.awaits_cancelled _ o k
    · exact absurd hr (Channel.not_records_cancelled _ o k)
  · exact hset _
  · exact h
  · exact h
  · exact h

/-! ### Every command, and every step -/

/-- Every command keeps the tag law, where the tracking law holds. -/
theorem exec_keeps_tags {s t : State} (i : Instr) (htr : s.TrackingLaw) (h : s.TagLaw)
    (he : exec i s = .next t) : t.TagLaw := by
  cases i with
  | request r =>
    refine next_inj ?_ he
    split
    · split
      · exact h.congr rfl
      · exact h.congr (s.receive_tagView r)
    · exact h
  | hostLinkUp | memoryLinkUp | credit _ | unknownCommand _ =>
    refine next_inj ?_ he
    split
    · exact h.congr rfl
    · exact h.congr rfl
  | response w st data =>
    refine next_inj ?_ he
    split
    · split
      · exact h.takeResponse htr _ st data
      · exact h.congr rfl
    · exact h
  | enterDone => exact next_inj (h.congr (s.takeDone_tagView _ State.entered_tagView)) he
  | exitDone => exact next_inj (h.congr (s.takeDone_tagView _ State.exited_tagView)) he
  | responseTimeout tag => exact execResponseTimeout_keeps_tags h htr tag he
  | fillWriteTimeout tag => exact execFillWriteTimeout_keeps_tags h htr tag he
  | entryTimeout | exitTimeout =>
    have hreached : s.reachDirective.TagLaw := h.congr s.reachDirective_tagView
    refine next_inj ?_ he
    split
    · exact hreached.congr (by simp [State.tagView])
    · exact h
  | halt =>
    refine next_inj ?_ he
    split
    · exact h.congr ((State.halted_tagView _).trans s.reachDirective_tagView)
    · exact h
  | slpReqRise =>
    refine next_inj ?_ he
    split
    · exact h
    · exact h.congr (State.startDrain_tagView _)
  | slpReqFall =>
    refine next_inj ?_ he
    split
    · exact h.congr s.slpFell_tagView
    · exact h
  | drainCompletion => exact next_inj (h.congr s.settleDrain_tagView) he
  | hardReset => exact next_inj s.tagLaw_hardReset he
  | hardResetEnd =>
    refine next_inj ?_ he
    split
    · exact h.congr (State.startDrain_tagView _)
    · exact h
  | headClassification =>
    refine next_inj ?_ he
    split
    · exact h
    · split
      · exact h.congr (s.settleHead_tagView _ _)
      · exact h
  | fillStart => exact execFillStart_keeps_tags h htr he
  | queueAtHead =>
    refine next_inj ?_ he
    split
    · split
      · exact h.congr (s.takeQueueAtHead_tagView _)
      · exact h
    all_goals exact h
  | promotion =>
    refine next_inj ?_ he
    split
    · split
      · split <;> exact h.congr rfl
      · exact h
    all_goals exact h
  | headGrant =>
    refine next_inj ?_ he
    split
    · next hfree =>
      split
      · exact h.grantHead _ (free_of_lowestFree hfree)
      · exact h
    all_goals exact h
  | channelGrant c =>
    refine next_inj ?_ he
    split
    · next hfree =>
      split
      · exact h.grantChan htr c (free_of_lowestFree hfree)
      · exact h
    · exact h
  | take c => exact execTake_keeps_tags h htr c he
  | cursorStep c => exact execCursorStep_keeps_tags h c he
  | status | result | get _ | set _ _ | readTile _ | readChannel _ | takeNotice =>
    refine next_inj (h.takeCommand _ ?_ _) he
    exact h.congr rfl
  | frameAbandon | frameEnd => exact next_inj (h.congr s.raiseSelect_tagView) he
  | engage option =>
    exact next_inj (h.takeLong _ _ (h.congr (s.acceptEngage_tagView option))) he
  | engageWalkClaim =>
    refine next_inj ?_ he
    split
    · exact h
    · split
      · split
        · exact h.congr (State.settleDrain_tagView _)
        · exact h.congr rfl
      · exact h
  | disengage => exact next_inj (h.takeLong _ _ h.acceptDisengage) he
  | disengageEnd => exact next_inj (h.congr s.settleDisengage_tagView) he
  | restart => exact next_inj (h.takeLong _ _ h.acceptRestart) he
  | restartClear => exact next_inj h.settleRestart he
  | discard _ _ | prepare _ _ | adopt _ _ =>
    refine next_inj (h.takeLong _ _ ?_) he
    exact h.congr rfl
  | discardClaim =>
    refine next_inj ?_ he
    split
    · exact h
    · exact (h.discardTile _).congr rfl
  | prepareClaim =>
    refine next_inj ?_ he
    split
    · exact h
    · split
      · exact h
      · exact h.congr (s.prepareTile_tagView _)
  | adoptClaim =>
    refine next_inj ?_ he
    split
    · exact h
    · split
      · exact h
      · exact h.congr (s.adoptTile_tagView _)
  | frameBegin =>
    refine next_inj ?_ he
    split
    · exact h
    · dsimp only
      split
      · exact h.congr rfl
      · exact h.congr rfl

/-- Settles O7: a step is a command, which keeps the law, or a tick of the clock. -/
theorem stepKeepsTagLaw : Obligations.StepKeepsTagLaw := by
  intro s t htr h hstep
  rcases step_cases hstep with ⟨c, rest, -, he⟩ | ⟨c, -, -, he⟩ | ⟨-, -, rfl⟩
  · exact exec_keeps_tags (s := { s with pending := rest }) c (htr.congr rfl) (h.congr rfl) he
  · exact exec_keeps_tags c htr h he
  · exact h.congr rfl

end Sys2Proof.Machine
end

section
/-! What a command can do to the Retention Controller's record and to the pins it is read against
(spec/04, spec/12 R213): one inversion lemma, from which the handshake law (O8) and the arrows of
chapter 4 (O17) follow. -/

namespace Sys2Proof.Machine

/-! ### The record and its pins -/

/-- The Retention Controller's record, with the levels of SLP_REQ and RST_N it is read against. -/
def State.retView (s : State) : Retention × Bool × Bool :=
  (s.ret, s.pins.slpReqHigh, s.pins.inReset)

theorem State.retView_eq {s t : State} (hr : t.ret = s.ret) (hp : t.pins = s.pins) :
    t.retView = s.retView := by
  rw [State.retView, hr, hp, State.retView]

/-- The parts of equal views are equal. -/
theorem State.retView_parts {s t : State} (h : t.retView = s.retView) :
    t.ret = s.ret ∧ t.pins.slpReqHigh = s.pins.slpReqHigh ∧ t.pins.inReset = s.pins.inReset := by
  simpa only [State.retView, Prod.mk.injEq] using h

theorem State.ret_of_retView {s t : State} (h : t.retView = s.retView) : t.ret = s.ret :=
  congrArg Prod.fst h

/-! ### Operations that leave the record and its pins -/

@[simp] theorem State.flush_retView (s : State) (st : HostStatus) :
    (s.flush st).retView = s.retView := by
  simp only [State.flush, respondAll_eq]
  rfl

theorem State.settleHead_retView (s : State) (r : HostRequest) (d : Decision) :
    (s.settleHead r d).retView = s.retView := by
  cases d with
  | answer st data n => cases n <;> rfl
  | forward how => rfl
  | wait => rfl
  | claim c => cases c <;> rfl

theorem State.issueEffect_retView (s : State) (t : Tag) (how : IssueForm) :
    (s.issueEffect t how).retView = s.retView := by
  cases how with
  | plain | writeClaim _ => rfl
  | reissue c o | insert c o =>
    exact State.retView_eq (State.setChan_ret s c _) (State.setChan_pins s c _)

/-- An issued head writes the dispatch unit, the links, the tags and its tile or skip list. -/
theorem State.issueHead_retView (s : State) (r : HostRequest) (t : Tag) (how : IssueForm) :
    (s.issueHead r t how).retView = s.retView := by
  obtain ⟨tags, l, he⟩ := s.passHead_issue_eq t
    (.host r.body.kind (burstAddr r.addr) r.tag how.link) (burstAddr r.addr)
    (how.body s.settings r.body)
  simp only [State.issueHead, he]
  exact State.issueEffect_retView _ t how

theorem State.grantHead_retView (s : State) (r : HostRequest) (t : Tag) :
    (s.grantHead r t).retView = s.retView := by
  by_cases hf : ∃ how, classify s r = .forward how
  · obtain ⟨how, hc⟩ := hf
    simp only [State.grantHead, hc]
    exact s.issueHead_retView r t how
  · rw [grantHead_eq_settleHead t fun how hc => hf ⟨how, hc⟩]
    exact s.settleHead_retView r _

theorem State.setChan_retView (s : State) (c : Chan) (r : Channel) :
    (s.setChan c r).retView = s.retView :=
  State.retView_eq (by simp) (by simp)

theorem State.examineChans_retView (s : State) : s.examineChans.retView = s.retView := rfl

theorem State.startFill_retView (s : State) (t : Tile) (c : Chan) :
    (s.startFill t c).retView = s.retView :=
  State.retView_eq (by simp) (by simp)

theorem State.grantChan_retView (s : State) (c : Chan) (tag : Tag) :
    (s.grantChan c tag).retView = s.retView := by
  have hself := s.setChan_retView c (s.chan c)
  unfold State.grantChan
  split
  · split
    · exact hself
    · split
      · exact State.setChan_retView _ c _
      · split
        · exact State.setChan_retView _ c _
        · exact hself
  · exact hself
  · exact hself

theorem State.discardTile_retView (s : State) (t : Tile) :
    (s.discardTile t).1.retView = s.retView := by
  unfold State.discardTile
  split
  · rfl
  · rfl
  · exact State.setChan_retView _ _ _
  all_goals rfl

theorem State.prepareTile_retView (s : State) (t : Tile) :
    (s.prepareTile t).1.retView = s.retView := by
  unfold State.prepareTile
  split <;> rfl

theorem State.adoptTile_retView (s : State) (t : Tile) :
    (s.adoptTile t).1.retView = s.retView := by
  unfold State.adoptTile
  split <;> rfl

theorem State.raiseSelect_retView (s : State) : s.raiseSelect.retView = s.retView := by
  unfold State.raiseSelect
  split <;> rfl

theorem State.acceptEngage_retView (s : State) (option : Byte) :
    (s.acceptEngage option).retView = s.retView := by
  unfold State.acceptEngage
  split <;> rfl

theorem State.reachDirective_retView (s : State) : s.reachDirective.retView = s.retView := by
  obtain ⟨d, he⟩ := s.reachDirective_eq
  rw [he]
  rfl

theorem State.takeCommand_retView {s after : State} (h : after.retView = s.retView) (t : Nat)
    (reply : List Byte) : (s.takeCommand t after reply).retView = s.retView := by
  unfold State.takeCommand
  split
  · exact h
  · rfl

/-- A long command leaves the record and its pins, or has been judged fit and left them to its
acceptance. -/
theorem State.takeLong_retView (s : State) (c : LongCmd) (t : Nat) (why : Option Reason)
    (accepted : State) :
    (s.takeLong c t why accepted).retView = s.retView ∨
      (why = none ∧ (s.takeLong c t why accepted).retView = accepted.retView) := by
  by_cases hf : s.FrameOpen
  · cases hb : s.busyFor c
    · cases why with
      | none => exact .inr ⟨rfl, by rw [takeLong_accepted hf c t accepted hb]; rfl⟩
      | some r => exact .inl (by rw [takeLong_refused hf c t r accepted hb]; rfl)
    · exact .inl (by rw [takeLong_busy hf c t why accepted hb]; rfl)
  · rw [← frameOpen_iff] at hf
    exact .inl (congrArg _ (if_neg hf))

/-! ### Operations that write the record -/

/-- A drain's start writes the state alone, from ACTIVE (spec/04 R84). -/
theorem startDrain_ret (s : State) :
    s.startDrain.ret = s.ret ∨
      (s.ret.state = .active ∧ s.startDrain.ret = { s.ret with state := .draining }) := by
  rcases startDrain_cases s with ⟨hdue, hret, -, -⟩ | ⟨-, he⟩
  · simp only [State.drainDue, Bool.and_eq_true, decide_eq_true_eq] at hdue
    exact .inr ⟨hdue.1.1.1, hret⟩
  · exact .inl (congrArg _ he)

/-- Outside ACTIVE no drain starts (spec/04 R84). -/
theorem startDrain_of_ne_active {s : State} (h : s.ret.state ≠ .active) : s.startDrain = s :=
  if_neg (by simp [State.drainDue, h])

/-- The RESTART clear leaves the record at its hard-reset value, or with a drain started
(spec/10 R206, spec/04 R107). -/
theorem clear_ret (s : State) :
    s.clear.ret = Retention.reset ∨ s.clear.ret = { Retention.reset with state := .draining } :=
  (startDrain_ret _).imp id fun h => h.2

/-- ENTER_DONE in ENTERING leads to RETAINED with SLP_ACK high, or starts the exit
(spec/04 R92). -/
theorem entered_ret (s : State) :
    s.entered.ret = { s.ret with
      state := .retained, deadline := none, pendingWake := false, slpAck := true } ∨
    s.entered.ret = { s.ret with
      state := .exiting, exitAttempts := 1, pendingWake := false,
      releaseNeeded := s.ret.releaseNeeded || s.pins.slpReqHigh,
      deadline := some s.directiveDeadline } := by
  unfold State.entered
  dsimp only
  split
  · exact .inl rfl
  · exact .inr rfl

/-- A fall of SLP_REQ aborts a drain, ends a retained period, or is noted
(spec/04 R82, R88, R95). -/
theorem slpFell_ret (s : State) :
    (s.ret.state = .draining ∧
      s.slpFell.ret = { s.ret with state := .active, releaseNeeded := false }) ∨
    (s.ret.state = .retained ∧ s.slpFell.ret = { s.ret with
      state := .exiting, exitAttempts := 1, releaseNeeded := false,
      deadline := some s.directiveDeadline }) ∨
    (s.ret.state ≠ .draining ∧ s.ret.state ≠ .retained ∧
      s.slpFell.ret = { s.ret with releaseNeeded := false }) := by
  unfold State.slpFell
  dsimp only
  split
  · next hs => exact .inl ⟨hs, rfl⟩
  · next hs => exact .inr (.inl ⟨hs, rfl⟩)
  all_goals next hs => exact .inr (.inr ⟨by simp [hs], by simp [hs], rfl⟩)

/-- The halt writes the state, and clears the deadline and SLP_ACK (spec/04 R100). -/
theorem halted_retView (s : State) :
    s.halted.retView = ({ s.ret with state := .halted, deadline := none, slpAck := false },
      s.pins.slpReqHigh, s.pins.inReset) :=
  State.flush_retView _ _

/-! ### What a command can do -/

/-- The ways in which a command takes the Retention Controller's record and its pins from s to t.
`u` is the state the command's own effects leave before the record is written. -/
inductive State.RetMove (s : State) : Instr → State → Prop
  | stays {i : Instr} {t : State} (ht : t.retView = s.retView) : RetMove s i t
  | hardReset : RetMove s .hardReset s.hardReset
  | hardResetEnd : RetMove s .hardResetEnd (State.startDrain
      { s with pins := { s.pins with inReset := false, hostReady := true, memReady := true } })
  | slpReqRise : RetMove s .slpReqRise
      (State.startDrain { s with pins := { s.pins with slpReqHigh := true } })
  | slpReqFall : RetMove s .slpReqFall s.slpFell
  /-- The RESTART clear (spec/10 R206). -/
  | cleared {i : Instr} {u t : State}
      (hs : s.control.mode = .restarting ∨ s.ret.state = .active ∨ s.ret.state = .halted)
      (hu : u.retView = s.retView) (ht : t.retView = u.clear.retView) : RetMove s i t
  /-- A drain completes: where it was due already, in its own command or before an EXIT_DONE
  (spec/04 R86). -/
  | drained {i : Instr} {u t : State} (hs : s.ret.state = .draining)
      (hi : s.ModeLaw → s.drainDone = true →
        i = .drainCompletion ∨ (s.link.up = true ∧ i = .exitDone))
      (hu : u.retView = s.retView) (ht : t.retView = u.completeDrain.retView) : RetMove s i t
  | wakePending {r : HostRequest} {t : State} (hs : s.ret.state = .entering)
      (ht : t.retView =
        ({ s.ret with pendingWake := true }, s.pins.slpReqHigh, s.pins.inReset)) :
      RetMove s (.request r) t
  | wakes {r : HostRequest} {u : State} (hs : s.ret.state = .retained)
      (hu : u.retView = s.retView) : RetMove s (.request r) (u.needRelease.sendExit 1)
  | entered (hs : s.ret.state = .entering) : RetMove s .enterDone s.entered
  | drainedEntered (hup : s.link.up = true) (hd : s.drainDone = true) :
      RetMove s .enterDone s.completeDrain.entered
  | exited (hs : s.ret.state = .exiting) : RetMove s .exitDone s.exited
  | entryTimeout {u : State} (hs : s.ret.state = .entering) (hu : u.retView = s.retView) :
      RetMove s .entryTimeout (State.sendExit (State.needRelease
        { u with ret := { u.ret with pendingWake := false } }) 1)
  | exitTimeout {u : State} (hs : s.ret.state = .exiting) (hu : u.retView = s.retView) :
      RetMove s .exitTimeout (u.sendExit 2)
  | halt {u : State} (hs : s.ret.state = .exiting) (ha : s.ret.exitAttempts = 2)
      (hu : u.retView = s.retView) : RetMove s .halt u.halted

/-! ### The settling of what waits -/

/-- A settling event completes a drain or leaves the record, where a drain that was due already is
only settled by its own command. -/
theorem retMove_settleDrain {s u : State} {i : Instr} (hu : u.retView = s.retView)
    (hi : s.ModeLaw → s.drainDone = true → i = .drainCompletion) : s.RetMove i u.settleDrain := by
  rcases settleDrain_cases u with ⟨hd, -, -, he⟩ | ⟨-, he⟩
  · rw [he]
    rw [State.ret_of_retView hu] at hd
    exact .drained hd (fun hm hdone => .inl (hi hm hdone)) hu rfl
  · rw [he]
    exact .stays hu

/-- The end of DISENGAGE may complete a drain that the mode held up (spec/10 R203, spec/04 R86). -/
theorem retMove_settleDisengage {s u : State} {i : Instr} (hu : u.retView = s.retView)
    (hc : u.control = s.control) : s.RetMove i u.settleDisengage := by
  unfold State.settleDisengage
  split
  · next h =>
    refine retMove_settleDrain hu fun _ hd => ?_
    obtain ⟨-, -, hset⟩ := (drainDone_iff s).1 hd
    rw [← hc, h.1] at hset
    simp at hset
  · exact .stays hu

/-- The RESTART clear is taken, or the restart waits (spec/10 R206). -/
theorem settleRestart_cases (s : State) :
    (s.control.mode = .restarting ∧ s.settleRestart = s.clear) ∨ s.settleRestart = s := by
  unfold State.settleRestart
  split
  · next h => exact .inl ⟨h.1, rfl⟩
  · exact .inr rfl

/-- The RESTART clear is taken in RESTARTING (spec/10 R206). -/
theorem retMove_settleRestart {s u : State} {i : Instr} (hu : u.retView = s.retView)
    (hc : u.control = s.control) : s.RetMove i u.settleRestart := by
  rcases settleRestart_cases u with ⟨hm, he⟩ | he
  · rw [he]
    exact .cleared (.inl (hc ▸ hm)) hu rfl
  · rw [he]
    exact .stays hu

/-- No drain's completion is due where one of its conditions fails (spec/04 R86). -/
theorem drainDone_eq_false {s : State}
    (h : s.ret.state ≠ .draining ∨ (∃ t : Tag, (s.tags[t]).isInUse = true) ∨
      (s.control.mode ≠ .bypass ∧ s.control.mode ≠ .engaged)) : s.drainDone = false := by
  rw [Bool.eq_false_iff, ne_eq, drainDone_iff]
  rintro ⟨hs, ht, hm⟩
  rcases h with h | ⟨t, hu⟩ | ⟨hb, he⟩
  · exact h hs
  · rw [ht t] at hu
    cases hu
  · exact hm.elim hb he

/-- While a tag is IN_USE no drain's completion is due (spec/04 R86). -/
theorem drainDone_false_of_inUse {s : State} {t : Tag} {o : Origin} {d : Micros}
    (h : s.tags[t] = .inUse o d) : s.drainDone = false :=
  drainDone_eq_false (.inr (.inl ⟨t, by rw [h]; rfl⟩))

/-- What the settling of a tag that was IN_USE does to the record. -/
theorem retMove_settleTag {s u : State} {i : Instr} {t : Tag} {o : Origin} {d : Micros}
    (ht : s.tags[t] = .inUse o d) (hu : u.retView = s.retView) (hc : u.control = s.control) :
    s.RetMove i u.settleTag := by
  have hi := drainDone_false_of_inUse ht
  have hdrain : s.RetMove i u.settleDrain :=
    retMove_settleDrain hu fun _ hd => by rw [hi] at hd; cases hd
  unfold State.settleTag
  split
  · exact retMove_settleRestart hu hc
  · exact retMove_settleDisengage hu hc
  · exact hdrain
  · exact hdrain
  · exact .stays hu

/-! ### The commands -/

/-- A request in ENTERING may leave a wake pending, and one in RETAINED starts the exit
(spec/04 R83, R96). -/
theorem retMove_handArrival {s u : State} (hu : u.retView = s.retView) (r : HostRequest) :
    s.RetMove (.request r) (u.handArrival r) := by
  obtain ⟨hret, hslp, hrst⟩ := State.retView_parts hu
  unfold State.handArrival
  split
  · exact .stays hu
  · exact .stays hu
  · exact .stays hu
  · next hs =>
    split
    · refine .wakePending (hret ▸ hs) ?_
      simp only [State.retView, State.append, hret, hslp, hrst]
    · exact .stays hu
  · next hs =>
    split
    · exact .wakes (u := u.append r) (hret ▸ hs) hu
    · exact .stays hu
  · exact .stays hu

theorem retMove_receive (s : State) (r : HostRequest) : s.RetMove (.request r) (s.receive r) := by
  unfold State.receive
  dsimp only
  split
  · exact .stays rfl
  · refine retMove_handArrival ?_ r
    rfl

theorem retMove_takeResponse (s : State) (i : Instr) (t : Tag) (st : MemStatus) (data : Burst) :
    s.RetMove i (s.takeResponse t st data) := by
  unfold State.takeResponse
  split
  · exact .stays rfl
  · exact .stays rfl
  · next ht => exact retMove_settleTag ht (State.retView_eq (by simp) (by simp)) (by simp)
  · next ht => exact retMove_settleTag ht (State.retView_eq (by simp) (by simp)) (by simp)

/-- ENTER_DONE finds a due drain completed, and is then matched in ENTERING (spec/04 R86, R92). -/
theorem retMove_enterDone (s : State) :
    s.RetMove .enterDone (s.takeDone .entering State.entered) := by
  rcases takeDone_cases s .entering State.entered with ⟨-, he⟩ | ⟨hup, hd, he⟩ | ⟨-, -, he⟩
  · rw [he]
    exact .stays rfl
  · rw [he, if_pos rfl]
    exact .drainedEntered hup hd
  · rw [he]
    split
    · next hs => exact .entered hs
    · exact .stays rfl

/-- EXIT_DONE finds a due drain completed, and is then matched in EXITING (spec/04 R86, R98). -/
theorem retMove_exitDone (s : State) :
    s.RetMove .exitDone (s.takeDone .exiting State.exited) := by
  rcases takeDone_cases s .exiting State.exited with ⟨-, he⟩ | ⟨hup, hd, he⟩ | ⟨-, -, he⟩
  · rw [he]
    exact .stays rfl
  · rw [he, if_neg (by decide)]
    exact .drained (u := s) ((drainDone_iff s).1 hd).1 (fun _ _ => .inr ⟨hup, rfl⟩) rfl rfl
  · rw [he]
    split
    · next hs => exact .exited hs
    · exact .stays rfl

/-- The ENGAGE walk's last claim may complete a drain that ENGAGING held up (spec/10 R201). -/
theorem retMove_engageWalkClaim {s t : State} (he : execEngageWalkClaim s = .next t) :
    s.RetMove .engageWalkClaim t := by
  refine next_inj ?_ he
  split
  · exact .stays rfl
  · next w hw =>
    split
    · split
      · refine retMove_settleDrain rfl fun hm hd => ?_
        obtain ⟨-, -, hset⟩ := (drainDone_iff s).1 hd
        rw [hm.engaging_of_walk hw] at hset
        simp at hset
      · exact .stays rfl
    · exact .stays rfl

/-- In ACTIVE the end of DISENGAGE completes no drain (spec/10 R203). -/
theorem settleDisengage_retView_of_active {s : State} (h : s.ret.state = .active) :
    s.settleDisengage.retView = s.retView := by
  unfold State.settleDisengage
  split
  · rw [State.endDisengage, settleDrain_of_active (by exact h)]
    rfl
  · rfl

/-- DISENGAGE is accepted in ACTIVE, where no drain is under way (spec/10 R202). -/
theorem acceptDisengage_retView {s : State} (h : s.judgeDisengage = none) :
    s.acceptDisengage.retView = s.retView := by
  have ha : s.ret.state = .active := by
    simpa [State.retActive] using firstFailure_none h (s.retActive, .state) (by simp)
  have hstop : s.disengaging.retView = s.retView := by
    simp only [State.retView, State.disengaging]
  rw [acceptDisengage_eq, settleDisengage_retView_of_active, hstop]
  rwa [(State.retView_parts hstop).1]

/-- The acceptance of RESTART looks for its clear once the flush has left the record as it was. -/
theorem acceptRestart_eq_settleRestart (s : State) :
    ∃ u : State, u.retView = s.retView ∧ s.acceptRestart = u.settleRestart := by
  refine ⟨_, ?_, rfl⟩
  exact (State.examineChans_retView _).trans (State.flush_retView _ _)

/-- A long command that is accepted with the record as it is, or not at all, leaves it. -/
theorem retMove_takeLong {s accepted : State} {i : Instr} (c : LongCmd) (n : Nat)
    {why : Option Reason} (h : why = none → accepted.retView = s.retView) :
    s.RetMove i (s.takeLong c n why accepted) := by
  rcases s.takeLong_retView c n why accepted with he | ⟨hw, he⟩
  · exact .stays he
  · exact .stays (he.trans (h hw))

/-- RESTART is accepted in ACTIVE or HALTED, and may take its clear at once (spec/10 R204, R206). -/
theorem retMove_restart (s : State) (n : Nat) :
    s.RetMove .restart (s.takeLong .restart n s.judgeRestart s.acceptRestart) := by
  rcases s.takeLong_retView .restart n s.judgeRestart s.acceptRestart with he | ⟨hw, he⟩
  · exact .stays he
  · have hs : s.ret.state = .active ∨ s.ret.state = .halted := by
      simpa [State.retActive] using firstFailure_none hw _ (List.mem_singleton_self _)
    obtain ⟨u, hu, hacc⟩ := acceptRestart_eq_settleRestart s
    rcases settleRestart_cases u with ⟨-, hclear⟩ | hwait
    · exact .cleared (.inr hs) hu (he.trans (congrArg _ (hacc.trans hclear)))
    · exact .stays ((he.trans (congrArg _ (hacc.trans hwait))).trans hu)

/-- Every command makes one of the moves. -/
theorem exec_retMove {s t : State} {i : Instr} (he : exec i s = .next t) : s.RetMove i t := by
  cases i with
  | request r =>
    refine next_inj ?_ he
    split
    · split
      · exact .stays rfl
      · exact retMove_receive s r
    · exact .stays rfl
  | hostLinkUp | memoryLinkUp | credit _ | unknownCommand _ =>
    refine next_inj ?_ he
    split
    · exact .stays rfl
    · exact .stays rfl
  | response w st data =>
    refine next_inj ?_ he
    split
    · split
      · exact retMove_takeResponse s _ _ st data
      · exact .stays rfl
    · exact .stays rfl
  | enterDone => exact next_inj (retMove_enterDone s) he
  | exitDone => exact next_inj (retMove_exitDone s) he
  | responseTimeout tag | fillWriteTimeout tag =>
    refine next_inj ?_ he
    split
    · next ht =>
      split
      · exact retMove_settleTag ht (State.retView_eq (by simp) (by simp)) (by simp)
      · exact .stays rfl
    all_goals exact .stays rfl
  | entryTimeout =>
    refine next_inj ?_ he
    split
    · next h => exact .entryTimeout (u := s.reachDirective.post _) h.1 s.reachDirective_retView
    · exact .stays rfl
  | exitTimeout =>
    refine next_inj ?_ he
    split
    · next h => exact .exitTimeout (u := s.reachDirective.post _) h.1 s.reachDirective_retView
    · exact .stays rfl
  | halt =>
    refine next_inj ?_ he
    split
    · next h => exact .halt h.1 h.2.1 s.reachDirective_retView
    · exact .stays rfl
  | slpReqRise =>
    refine next_inj ?_ he
    split
    · exact .stays rfl
    · exact .slpReqRise
  | slpReqFall =>
    refine next_inj ?_ he
    split
    · exact .slpReqFall
    · exact .stays rfl
  | drainCompletion => exact next_inj (retMove_settleDrain rfl fun _ _ => rfl) he
  | hardReset => exact next_inj .hardReset he
  | hardResetEnd =>
    refine next_inj ?_ he
    split
    · exact .hardResetEnd
    · exact .stays rfl
  | headClassification =>
    refine next_inj ?_ he
    split
    · exact .stays rfl
    · split
      · exact .stays (s.settleHead_retView _ _)
      · exact .stays rfl
  | fillStart =>
    refine next_inj (.stays ?_) he
    split
    · split
      · split
        · split
          · exact s.startFill_retView _ _
          · split
            · exact s.startFill_retView _ _
            · rfl
        · rfl
      · rfl
    all_goals rfl
  | queueAtHead =>
    refine next_inj ?_ he
    split
    · split
      · refine .stays ?_
        unfold State.takeQueueAtHead
        split <;> rfl
      · exact .stays rfl
    all_goals exact .stays rfl
  | promotion =>
    refine next_inj ?_ he
    split
    · split
      · split <;> exact .stays rfl
      · exact .stays rfl
    all_goals exact .stays rfl
  | headGrant =>
    refine next_inj ?_ he
    split
    · split
      · exact .stays (s.grantHead_retView _ _)
      · exact .stays rfl
    all_goals exact .stays rfl
  | channelGrant c =>
    refine next_inj ?_ he
    split
    · split
      · exact .stays (s.grantChan_retView c _)
      · exact .stays rfl
    · exact .stays rfl
  | take c =>
    rcases execTake_cases he with rfl | ⟨k, rest, -, rfl⟩
    · exact .stays rfl
    · exact .stays (s.startFill_retView k c)
  | cursorStep c =>
    refine next_inj ?_ he
    split
    · split
      · refine .stays (State.retView_eq ?_ ?_) <;> simp [State.stepCursor]
      · exact .stays rfl
    · exact .stays rfl
  | status | result | get _ | set _ _ | readTile _ | readChannel _ | takeNotice =>
    refine next_inj (.stays (State.takeCommand_retView ?_ _ _)) he
    rfl
  | frameAbandon | frameEnd => exact next_inj (.stays s.raiseSelect_retView) he
  | engage option =>
    exact next_inj (retMove_takeLong _ _ fun _ => s.acceptEngage_retView option) he
  | engageWalkClaim => exact retMove_engageWalkClaim he
  | disengage => exact next_inj (retMove_takeLong _ _ acceptDisengage_retView) he
  | disengageEnd => exact next_inj (retMove_settleDisengage rfl rfl) he
  | restart => exact next_inj (retMove_restart s _) he
  | restartClear => exact next_inj (retMove_settleRestart rfl rfl) he
  | discard _ _ | prepare _ _ | adopt _ _ =>
    refine next_inj (retMove_takeLong _ _ fun _ => ?_) he
    rfl
  | discardClaim =>
    refine next_inj ?_ he
    split
    · exact .stays rfl
    · exact .stays (s.discardTile_retView _)
  | prepareClaim =>
    refine next_inj ?_ he
    split
    · exact .stays rfl
    · split
      · exact .stays rfl
      · exact .stays (s.prepareTile_retView _)
  | adoptClaim =>
    refine next_inj ?_ he
    split
    · exact .stays rfl
    · split
      · exact .stays rfl
      · exact .stays (s.adoptTile_retView _)
  | frameBegin =>
    refine next_inj ?_ he
    split
    · exact .stays rfl
    · dsimp only
      split <;> exact .stays rfl

end Sys2Proof.Machine
end

section
/-! Every step keeps the handshake law (O8): the law state by state, and one rule for each move. -/

namespace Sys2Proof.Machine

/-! ### The law, state by state -/

section ByState

variable {s : State}

theorem handshakeLaw_iff_of_active (hs : s.ret.state = .active) :
    s.HandshakeLaw ↔ s.ret.slpAck = false ∧ s.ret.pendingWake = false ∧
      (s.ret.releaseNeeded = true → s.pins.slpReqHigh = true) ∧ s.ret.deadline = none ∧
      s.ret.exitAttempts = 0 ∧ s.drainDue = false := by
  simp [State.HandshakeLaw, hs]

theorem handshakeLaw_iff_of_draining (hs : s.ret.state = .draining) :
    s.HandshakeLaw ↔ s.ret.slpAck = false ∧ s.ret.pendingWake = false ∧
      (s.ret.releaseNeeded = true → s.pins.slpReqHigh = true) ∧ s.ret.deadline = none ∧
      s.ret.exitAttempts = 0 := by
  simp [State.HandshakeLaw, State.drainDue, hs]

theorem handshakeLaw_iff_of_entering (hs : s.ret.state = .entering) :
    s.HandshakeLaw ↔ s.ret.slpAck = false ∧
      (s.ret.releaseNeeded = true → s.pins.slpReqHigh = true) ∧
      s.ret.deadline.isSome = true ∧ s.ret.exitAttempts = 0 := by
  simp [State.HandshakeLaw, State.drainDue, hs]

theorem handshakeLaw_iff_of_retained (hs : s.ret.state = .retained) :
    s.HandshakeLaw ↔ s.ret.slpAck = true ∧ s.pins.slpReqHigh = true ∧
      s.ret.pendingWake = false ∧ s.ret.deadline = none ∧ s.ret.exitAttempts = 0 := by
  simp [State.HandshakeLaw, State.drainDue, hs]
  tauto

theorem handshakeLaw_iff_of_exiting (hs : s.ret.state = .exiting) :
    s.HandshakeLaw ↔ s.ret.pendingWake = false ∧
      (s.ret.releaseNeeded = true → s.pins.slpReqHigh = true) ∧
      s.ret.deadline.isSome = true ∧ (s.ret.exitAttempts = 1 ∨ s.ret.exitAttempts = 2) := by
  simp [State.HandshakeLaw, State.drainDue, hs]

theorem handshakeLaw_iff_of_halted (hs : s.ret.state = .halted) :
    s.HandshakeLaw ↔ s.ret.slpAck = false ∧ s.ret.pendingWake = false ∧
      (s.ret.releaseNeeded = true → s.pins.slpReqHigh = true) ∧ s.ret.deadline = none ∧
      s.ret.exitAttempts = 2 := by
  simp [State.HandshakeLaw, State.drainDue, hs]

end ByState

/-- Release-needed stands only with SLP_REQ high (spec/04 R82). -/
theorem State.HandshakeLaw.high_of_releaseNeeded {s : State} (h : s.HandshakeLaw) :
    s.ret.releaseNeeded = true → s.pins.slpReqHigh = true := by
  obtain ⟨-, -, -, hr, -⟩ := h
  exact hr

/-- The law reads nothing but the record and its pins. -/
theorem State.HandshakeLaw.congr {s t : State} (h : s.HandshakeLaw) (he : t.retView = s.retView) :
    t.HandshakeLaw := by
  obtain ⟨hr, hp, hi⟩ := State.retView_parts he
  simpa only [State.HandshakeLaw, State.drainDue, hr, hp, hi] using h

/-! ### One rule for each move -/

/-- A record fit for ACTIVE fits once a drain that is due has started (spec/04 R84). -/
theorem handshakeLaw_startDrain {s : State} (hs : s.ret.state = .active)
    (ha : s.ret.slpAck = false) (hw : s.ret.pendingWake = false)
    (hr : s.ret.releaseNeeded = true → s.pins.slpReqHigh = true) (hd : s.ret.deadline = none)
    (hn : s.ret.exitAttempts = 0) : s.startDrain.HandshakeLaw := by
  rcases startDrain_cases s with ⟨-, hret, -, -⟩ | ⟨hdue, he⟩
  · rw [handshakeLaw_iff_of_draining (by rw [hret])]
    simpa [hret] using ⟨ha, hw, hr, hd, hn⟩
  · rw [he]
    exact (handshakeLaw_iff_of_active hs).2 ⟨ha, hw, hr, hd, hn, hdue⟩

/-- The pins change with SLP_REQ high where it was, and a drain that this makes due starts
(spec/04 R84, R108). -/
theorem State.HandshakeLaw.raise {s : State} (h : s.HandshakeLaw) (p : Pins)
    (hp : s.pins.slpReqHigh = true → p.slpReqHigh = true) :
    (State.startDrain { s with pins := p }).HandshakeLaw := by
  by_cases hs : s.ret.state = .active
  · obtain ⟨ha, hw, hr, hd, hn, -⟩ := (handshakeLaw_iff_of_active hs).1 h
    exact handshakeLaw_startDrain hs ha hw (fun hn => hp (hr hn)) hd hn
  · rw [startDrain_of_ne_active (by exact hs)]
    obtain ⟨hack, hret, hwake, hrel, hdead, hatt, -⟩ := h
    exact ⟨hack, fun hs => ⟨(hret hs).1, hp (hret hs).2⟩, hwake, fun hr => hp (hrel hr), hdead,
      hatt, by simp [State.drainDue, hs]⟩

/-- RETAIN_EXIT is sent at attempt 1 or 2 from a record with pending-wake clear (spec/04 R97). -/
theorem handshakeLaw_sendExit {s : State} {n : Nat} (hn : n = 1 ∨ n = 2)
    (hw : s.ret.pendingWake = false)
    (hr : s.ret.releaseNeeded = true → s.pins.slpReqHigh = true) : (s.sendExit n).HandshakeLaw :=
  (handshakeLaw_iff_of_exiting (s := s.sendExit n) rfl).2 ⟨hw, hr, rfl, hn⟩

/-- The same, where release-needed is set before if SLP_REQ is high (spec/04 R82). -/
theorem handshakeLaw_needRelease_sendExit {s : State} (hw : s.ret.pendingWake = false)
    (hr : s.ret.releaseNeeded = true → s.pins.slpReqHigh = true) :
    (s.needRelease.sendExit 1).HandshakeLaw := by
  refine handshakeLaw_sendExit (.inl rfl) hw fun h => ?_
  rw [State.needRelease_releaseNeeded, Bool.or_eq_true] at h
  exact h.elim hr id

/-- A drain's completion starts the directive deadline (spec/04 R90). -/
theorem State.HandshakeLaw.completeDrain {s : State} (h : s.HandshakeLaw)
    (hs : s.ret.state = .draining) : s.completeDrain.HandshakeLaw := by
  obtain ⟨ha, -, hr, -, hn⟩ := (handshakeLaw_iff_of_draining hs).1 h
  exact (handshakeLaw_iff_of_entering rfl).2 ⟨ha, hr, rfl, hn⟩

/-- ENTER_DONE leads to RETAINED only with SLP_REQ high (spec/04 R92). -/
theorem State.HandshakeLaw.entered {s : State} (h : s.HandshakeLaw)
    (hs : s.ret.state = .entering) : s.entered.HandshakeLaw := by
  obtain ⟨-, hr, -, hn⟩ := (handshakeLaw_iff_of_entering hs).1 h
  unfold State.entered
  dsimp only
  split
  · next hc => exact (handshakeLaw_iff_of_retained rfl).2 ⟨rfl, hc.1, rfl, rfl, hn⟩
  · refine handshakeLaw_needRelease_sendExit ?_ hr
    rfl

/-- The completion of an exit leaves a record fit for ACTIVE (spec/04 R98). -/
theorem State.HandshakeLaw.exited {s : State} (h : s.HandshakeLaw)
    (hs : s.ret.state = .exiting) : s.exited.HandshakeLaw := by
  obtain ⟨hw, hr, -, -⟩ := (handshakeLaw_iff_of_exiting hs).1 h
  exact handshakeLaw_startDrain rfl rfl hw hr rfl rfl

/-- The halt keeps the attempt count at 2 (spec/04 R100). -/
theorem State.HandshakeLaw.halted {s : State} (h : s.HandshakeLaw)
    (hs : s.ret.state = .exiting) (hn : s.ret.exitAttempts = 2) : s.halted.HandshakeLaw := by
  obtain ⟨hw, hr, -, -⟩ := (handshakeLaw_iff_of_exiting hs).1 h
  have hfit : State.HandshakeLaw
      { s with ret := { s.ret with state := .halted, deadline := none, slpAck := false } } :=
    (handshakeLaw_iff_of_halted rfl).2 ⟨rfl, hw, hr, rfl, hn⟩
  exact hfit.congr (halted_retView s)

/-- Outside RETAINED SLP_REQ may be low, with release-needed clear (spec/04 R81, R82). -/
theorem State.HandshakeLaw.lower {s : State} (h : s.HandshakeLaw) (hs : s.ret.state ≠ .retained) :
    State.HandshakeLaw { s with pins := { s.pins with slpReqHigh := false },
                                ret := { s.ret with releaseNeeded := false } } := by
  obtain ⟨hack, -, hwake, -, hdead, hatt, -⟩ := h
  exact ⟨hack, fun hr => absurd hr hs, hwake, fun hr => (by cases hr), hdead, hatt,
    by simp [State.drainDue]⟩

/-- A fall of SLP_REQ aborts a drain, ends a retained period, or is noted (spec/04 R88, R95). -/
theorem State.HandshakeLaw.slpFell {s : State} (h : s.HandshakeLaw) : s.slpFell.HandshakeLaw := by
  unfold State.slpFell
  dsimp only
  split
  · next hs =>
    obtain ⟨ha, hw, -, hd, hn⟩ := (handshakeLaw_iff_of_draining hs).1 h
    exact (handshakeLaw_iff_of_active rfl).2
      ⟨ha, hw, Bool.noConfusion, hd, hn, by simp [State.drainDue]⟩
  · next hs =>
    obtain ⟨-, -, hw, -, -⟩ := (handshakeLaw_iff_of_retained hs).1 h
    exact handshakeLaw_sendExit (.inl rfl) hw Bool.noConfusion
  all_goals next hs => exact h.lower (by simp [hs])

/-- The RESTART clear and hard reset leave the record at its hard-reset value. -/
theorem handshakeLaw_clear (s : State) : s.clear.HandshakeLaw :=
  handshakeLaw_startDrain rfl rfl rfl Bool.noConfusion rfl rfl

theorem handshakeLaw_hardReset (s : State) : s.hardReset.HandshakeLaw :=
  (handshakeLaw_iff_of_active rfl).2 ⟨rfl, rfl, Bool.noConfusion, rfl, rfl,
    by simp [State.drainDue, State.hardReset]⟩

/-! ### Every command, and every step -/

/-- Every move keeps the law. -/
theorem State.RetMove.keeps_handshake {s t : State} {i : Instr} (m : s.RetMove i t)
    (h : s.HandshakeLaw) : t.HandshakeLaw := by
  cases m with
  | stays ht => exact h.congr ht
  | hardReset => exact handshakeLaw_hardReset s
  | hardResetEnd => exact h.raise _ id
  | slpReqRise => exact h.raise _ fun _ => rfl
  | slpReqFall => exact h.slpFell
  | cleared _ _ ht => exact (handshakeLaw_clear _).congr ht
  | drained hs _ hu ht =>
    exact ((h.congr hu).completeDrain (State.ret_of_retView hu ▸ hs)).congr ht
  | wakePending hs ht =>
    have hwake : State.HandshakeLaw { s with ret := { s.ret with pendingWake := true } } :=
      (handshakeLaw_iff_of_entering (by exact hs)).2 ((handshakeLaw_iff_of_entering hs).1 h)
    exact hwake.congr ht
  | wakes hs hu =>
    obtain ⟨-, -, hw, -, -⟩ := (handshakeLaw_iff_of_retained hs).1 h
    exact handshakeLaw_needRelease_sendExit (State.ret_of_retView hu ▸ hw)
      (h.congr hu).high_of_releaseNeeded
  | entered hs => exact h.entered hs
  | drainedEntered _ hd => exact (h.completeDrain ((drainDone_iff s).1 hd).1).entered rfl
  | exited hs => exact h.exited hs
  | entryTimeout _ hu =>
    refine handshakeLaw_needRelease_sendExit ?_ (h.congr hu).high_of_releaseNeeded
    rfl
  | exitTimeout hs hu =>
    obtain ⟨hw, hr, -, -⟩ :=
      (handshakeLaw_iff_of_exiting (State.ret_of_retView hu ▸ hs)).1 (h.congr hu)
    exact handshakeLaw_sendExit (.inr rfl) hw hr
  | halt hs ha hu =>
    have hret := State.ret_of_retView hu
    exact (h.congr hu).halted (hret ▸ hs) (hret ▸ ha)

/-- Settles O8: a step is a command, each of whose moves keeps the law, or a tick of the clock. -/
theorem stepKeepsHandshakeLaw : Obligations.StepKeepsHandshakeLaw := by
  intro s t h hstep
  rcases step_cases hstep with ⟨c, rest, -, he⟩ | ⟨c, -, -, he⟩ | ⟨-, -, rfl⟩
  · exact (exec_retMove he).keeps_handshake (h.congr rfl)
  · exact (exec_retMove he).keeps_handshake h
  · exact h.congr rfl

end Sys2Proof.Machine
end

section
/-! The arrows of chapter 4 (O17), read off the moves a command can make. -/

namespace Sys2Proof.Machine

/-! ### The parts of a move -/

@[simp] theorem needRelease_state (s : State) : s.needRelease.ret.state = s.ret.state := rfl

@[simp] theorem needRelease_slpAck (s : State) : s.needRelease.ret.slpAck = s.ret.slpAck := rfl

@[simp] theorem startDrain_slpAck (s : State) : s.startDrain.ret.slpAck = s.ret.slpAck := by
  rcases startDrain_ret s with h | ⟨-, h⟩ <;> rw [h]

@[simp] theorem slpFell_slpAck (s : State) : s.slpFell.ret.slpAck = s.ret.slpAck := by
  rcases slpFell_ret s with ⟨-, h⟩ | ⟨-, h⟩ | ⟨-, -, h⟩ <;> rw [h]

@[simp] theorem clear_slpAck (s : State) : s.clear.ret.slpAck = false := by
  rcases clear_ret s with h | h <;> rw [h] <;> rfl

@[simp] theorem completeDrain_slpAck (s : State) : s.completeDrain.ret.slpAck = s.ret.slpAck := rfl

@[simp] theorem exited_slpAck (s : State) : s.exited.ret.slpAck = false := startDrain_slpAck _

theorem halted_ret (s : State) :
    s.halted.ret = { s.ret with state := .halted, deadline := none, slpAck := false } :=
  congrArg Prod.fst (halted_retView s)

/-- ENTER_DONE raises SLP_ACK only into RETAINED (spec/04 R81, R92). -/
theorem entered_retained_of_ack {s : State} (h : s.entered.ret.slpAck ≠ s.ret.slpAck) :
    s.entered.ret.state = .retained := by
  rcases entered_ret s with he | he
  · rw [he]
  · rw [he] at h
    exact absurd rfl h

/-- A drain or an exit that starts at once leads on from ACTIVE. -/
theorem startDrain_state (s : State) (h : s.ret.state = .active) :
    s.startDrain.ret.state = .active ∨ s.startDrain.ret.state = .draining := by
  rcases startDrain_ret s with he | ⟨-, he⟩
  · exact .inl (by rw [he, h])
  · exact .inr (by rw [he])

/-- The RESTART clear leads to ACTIVE, or to DRAINING where a drain starts (spec/04 R107). -/
theorem clear_state (s : State) :
    s.clear.ret.state = .active ∨ s.clear.ret.state = .draining :=
  startDrain_state _ rfl

/-- An exit leads to ACTIVE, or to DRAINING where a drain starts (spec/04 R98). -/
theorem exited_state (s : State) :
    s.exited.ret.state = .active ∨ s.exited.ret.state = .draining :=
  startDrain_state _ rfl

/-- ENTER_DONE leads to RETAINED or EXITING (spec/04 R92). -/
theorem entered_state (s : State) :
    s.entered.ret.state = .retained ∨ s.entered.ret.state = .exiting := by
  rcases entered_ret s with he | he <;> rw [he] <;> simp

/-! ### The three rules -/

/-- SLP_ACK rises only where ENTER_DONE leads to RETAINED (spec/04 R81). -/
theorem State.RetMove.ack_rises {s t : State} {i : Instr} (m : s.RetMove i t)
    (hs : s.ret.slpAck = false) (ht : t.ret.slpAck = true) :
    i = .enterDone ∧ t.ret.state = .retained ∧
      (s.ret.state = .entering ∨ s.drainDone = true) := by
  cases m with
  | stays hv => simp [State.ret_of_retView hv, hs] at ht
  | hardReset => cases ht
  | hardResetEnd | slpReqRise | slpReqFall => simp [hs] at ht
  | cleared _ _ hv => simp [State.ret_of_retView hv] at ht
  | drained _ _ hu hv => simp [State.ret_of_retView hv, State.ret_of_retView hu, hs] at ht
  | wakePending _ hv => simp [show t.ret = _ from congrArg Prod.fst hv, hs] at ht
  | wakes _ hu => simp [State.ret_of_retView hu, hs] at ht
  | entered he => exact ⟨rfl, entered_retained_of_ack (by simp [ht, hs]), .inl he⟩
  | drainedEntered _ hd => exact ⟨rfl, entered_retained_of_ack (by simp [ht, hs]), .inr hd⟩
  | exited _ => simp at ht
  | entryTimeout _ hu => simp [State.ret_of_retView hu, hs] at ht
  | exitTimeout _ hu => simp [State.ret_of_retView hu, hs] at ht
  | halt _ _ hu => simp [halted_ret] at ht

/-- While a drain's completion is due, the record changes only by it, by a fall of SLP_REQ, by hard
reset, and by a done message (spec/04 R86). -/
theorem State.RetMove.drain_comes_next {s t : State} {i : Instr} (m : s.RetMove i t)
    (hm : s.ModeLaw) (hd : s.drainDone = true) (hne : t.ret ≠ s.ret) :
    i = .drainCompletion ∨ i = .slpReqFall ∨ i = .hardReset ∨
      (s.link.up = true ∧ (i = .enterDone ∨ i = .exitDone)) := by
  obtain ⟨hs, -, hset⟩ := (drainDone_iff s).1 hd
  cases m with
  | stays hv => exact absurd (State.ret_of_retView hv) hne
  | hardReset => exact .inr (.inr (.inl rfl))
  | hardResetEnd | slpReqRise =>
    rw [startDrain_of_ne_active (by simp [hs])] at hne
    exact absurd rfl hne
  | slpReqFall => exact .inr (.inl rfl)
  | cleared hs' _ _ => simp [hs] at hs'; simp [hs'] at hset
  | drained _ hi _ _ =>
    rcases hi hm hd with h | ⟨hup, h⟩
    · exact .inl h
    · exact .inr (.inr (.inr ⟨hup, .inr h⟩))
  | drainedEntered hup _ => exact .inr (.inr (.inr ⟨hup, .inl rfl⟩))
  | wakePending hs' _ | wakes hs' _ | entered hs' | exited hs' | entryTimeout hs' _
  | exitTimeout hs' _ | halt hs' _ _ =>
    rw [hs] at hs'
    cases hs'

/-- A RESTART clear comes outside every period (spec/10 R204). -/
theorem State.RetentionLaw.awake_of_cleared {s : State} (h : s.RetentionLaw)
    (hs : s.control.mode = .restarting ∨ s.ret.state = .active ∨ s.ret.state = .halted) :
    s.ret.state = .active ∨ s.ret.state = .draining ∨ s.ret.state = .halted := by
  rcases hs with hm | hs | hs
  · have hout := h.not_inPeriod (by rw [hm]; rfl)
    cases hx : s.ret.state <;> simp [hx, RetState.inPeriod] at hout ⊢
  · exact .inl hs
  · exact .inr (.inr hs)

/-- Settles O17: the rise of SLP_ACK and the due completion by their own rules, and the arrow of
each move by the state it starts from. -/
theorem retentionChangesFollowTheRules : Obligations.RetentionChangesFollowTheRules := by
  intro i s t h he
  have m := exec_retMove he
  refine ⟨fun hs ht => ?_, fun hm hs htags hset hne =>
    m.drain_comes_next hm ((drainDone_iff s).2 ⟨hs, htags, hset⟩) hne, ?_⟩
  · rw [← drainDone_iff]
    exact m.ack_rises hs ht
  cases m with
  | stays hv => exact .inl (congrArg _ (State.ret_of_retView hv))
  | hardReset => exact .inr (.inl ⟨rfl, rfl⟩)
  | hardResetEnd | slpReqRise =>
    rcases startDrain_ret _ with hr | ⟨hs, hr⟩
    · exact .inl (congrArg _ hr)
    · exact .inr (.inr (.inl ⟨hs, congrArg _ hr⟩))
  | slpReqFall =>
    rcases slpFell_ret s with ⟨hs, hr⟩ | ⟨hs, hr⟩ | ⟨-, -, hr⟩
    · simp [hs, hr]
    · simp [hs, hr]
    · simp [hr]
  | @cleared _ u _ hs _ hv =>
    have hx := clear_state u
    rw [← State.ret_of_retView hv] at hx
    rcases h.awake_of_cleared hs with hs | hs | hs <;> rcases hx with hx | hx <;> simp [hs, hx]
  | drained hs _ _ hv => simp [hs, State.ret_of_retView hv]
  | wakePending hs hv => simp [show t.ret = _ from congrArg Prod.fst hv]
  | wakes hs _ => simp [hs]
  | entered hs => rcases entered_state s with hx | hx <;> simp [hs, hx]
  | drainedEntered _ hd =>
    obtain ⟨hs, htags, hset⟩ := (drainDone_iff s).1 hd
    rcases entered_state s.completeDrain with hx | hx <;>
      simpa [hs, hx, hset] using htags
  | exited hs => rcases exited_state s with hx | hx <;> simp [hs, hx]
  | entryTimeout hs _ => simp [hs]
  | exitTimeout hs _ => simp [hs]
  | halt hs _ _ => simp [hs, halted_ret]

end Sys2Proof.Machine
end

section
/-! The settling of a tag (O29), the done messages (O30, O31, O32), the directive deadline (O33) and
the changes of SLP_REQ (O35). -/

namespace Sys2Proof.Machine

/-! ### The settling of a tag -/

/-- In BYPASS and ENGAGED a drain is what may wait for the last tag (spec/04 R86). -/
theorem settleTag_of_settled {s : State}
    (hm : s.control.mode = .bypass ∨ s.control.mode = .engaged) : s.settleTag = s.settleDrain := by
  rcases hm with hm | hm <;> simp only [State.settleTag, hm]

/-- Settles O29: by the mode, each settling completes its event or waits. -/
theorem settlingCompletesTheWaitingEvent : Obligations.SettlingCompletesTheWaitingEvent := by
  intro s
  refine ⟨fun hm => ?_, fun hm => by simp only [State.settleTag, hm], fun hm => ?_, fun hm => ?_⟩
  · rw [settleTag_of_settled hm]
    exact ⟨fun hd ht => settleDrain_eq hd ht hm,
      fun h => settleDrain_eq_self (h.imp id .inl)⟩
  · have he : s.settleTag = s.settleDisengage := by simp only [State.settleTag, hm]
    rw [he]
    exact ⟨settleDisengage_eq hm, fun h => settleDisengage_eq_self (.inr h)⟩
  · have he : s.settleTag = s.settleRestart := by simp only [State.settleTag, hm]
    rw [he]
    exact ⟨settleRestart_eq hm, fun h => settleRestart_eq_self (.inr h)⟩

/-! ### The done messages -/

/-- With the link UP a done message is matched in the state that settling a due drain leaves
(spec/04 R86, R101). -/
theorem exec_enterDone_eq {s : State} (hup : s.link.up = true) :
    exec .enterDone s = .next (if s.settleDrain.ret.state = .entering then s.settleDrain.entered
      else s.settleDrain.post { kind := .strayDirective }) := by
  simp only [exec, execEnterDone, State.takeDone, hup, if_true, State.strayDirective]

theorem exec_exitDone_eq {s : State} (hup : s.link.up = true) :
    exec .exitDone s = .next (if s.settleDrain.ret.state = .exiting then s.settleDrain.exited
      else s.settleDrain.post { kind := .strayDirective }) := by
  simp only [exec, execExitDone, State.takeDone, hup, if_true, State.strayDirective]

/-- Outside DRAINING no drain is settled. -/
theorem settleDrain_of_ne_draining {s : State} (h : s.ret.state ≠ .draining) : s.settleDrain = s :=
  settleDrain_eq_self (.inl h)

theorem exec_enterDone_entering {s : State} (hup : s.link.up = true)
    (hs : s.ret.state = .entering) : exec .enterDone s = .next s.entered := by
  rw [exec_enterDone_eq hup, settleDrain_of_ne_draining (by simp [hs]), if_pos hs]

theorem exec_exitDone_exiting {s : State} (hup : s.link.up = true) (hs : s.ret.state = .exiting) :
    exec .exitDone s = .next s.exited := by
  rw [exec_exitDone_eq hup, settleDrain_of_ne_draining (by simp [hs]), if_pos hs]

/-- Settles O31: what the message is matched in is the settled state. -/
theorem unmatchedDoneMessageIsStray : Obligations.UnmatchedDoneMessageIsStray := by
  intro s hup
  refine ⟨fun hno => ?_, fun hd ht hm => ?_⟩
  · have hsame := settleDrain_eq_self hno
    rw [exec_enterDone_eq hup, exec_exitDone_eq hup, hsame]
    exact ⟨fun hs => by rw [if_neg hs], fun hs => by rw [if_neg hs]⟩
  · have hdone := settleDrain_eq hd ht hm
    have hup' : s.completeDrain.link.up = true := (completeDrain_up s).trans hup
    have hstay : s.completeDrain.settleDrain = s.completeDrain :=
      settleDrain_of_ne_draining (by simp)
    rw [exec_enterDone_eq hup', exec_enterDone_eq hup, exec_exitDone_eq hup, hstay, hdone]
    exact ⟨by rw [if_neg (by simp)], rfl⟩

/-- Settles O30: SLP_REQ and pending-wake decide between RETAINED and the exit. -/
theorem enterDoneEntersOrExits : Obligations.EnterDoneEntersOrExits := by
  intro s hup hs u
  rw [exec_enterDone_entering hup hs, State.entered]
  refine ⟨fun hhigh hw => ?_, fun hhigh hw => ?_, fun hlow => ?_⟩
  · rw [if_pos ⟨hhigh, hw⟩]
    simp only [State.post, hw]
    rfl
  · rw [if_neg (by simp [hw])]
    simp only [State.needRelease, State.sendExit, State.post, State.direct, hhigh, Bool.or_true]
    rfl
  · rw [if_neg (by simp [hlow])]
    simp only [State.needRelease, State.sendExit, State.post, State.direct, hlow, Bool.or_false]
    rfl

/-! ### The start of a drain -/

/-- A paused channel asks for nothing (spec/03 R57). -/
theorem Channel.examined_of_paused (m : Mode) (n : Nat) (r : Channel) :
    ({ r with paused := true } : Channel).examined m n =
      { r with paused := true, asks := false } := by
  simp [Channel.examined, Channel.wants]

/-- A drain that is due starts: DRAINING, both channels paused and asking nothing, the head
unclassified (spec/04 R84). -/
theorem startDrain_eq {s : State} (h : s.drainDue = true) :
    s.startDrain = { s with
      chan0 := { s.chan0 with paused := true, asks := false },
      chan1 := { s.chan1 with paused := true, asks := false },
      dispatch := { headClass := none, claim := none },
      ret := { s.ret with state := .draining } } := by
  simp only [State.startDrain, h, if_true, State.setPaused, State.setChan, State.dropHead,
    Channel.examined_of_paused]

/-- Where no drain is due none starts (spec/04 R84). -/
theorem startDrain_eq_self {s : State} (h : s.drainDue = false) : s.startDrain = s :=
  if_neg (by simp [h])

/-- Settles O32: the exit, and then whether a new drain is due. -/
theorem exitDoneCompletesTheExit : Obligations.ExitDoneCompletesTheExit := by
  intro s hup hs u
  rw [exec_exitDone_exiting hup hs, State.exited]
  refine ⟨fun h => ?_, fun hhigh hrel hrst => ?_⟩
  · rw [startDrain_eq_self]
    · rfl
    · rcases h with h | h <;> simp [State.drainDue, h]
  · rw [startDrain_eq]
    · rfl
    · simp [State.drainDue, hhigh, hrel, hrst]

/-! ### The directive deadline -/

/-- A directive deadline that another deadline lies before does not pass (spec/12 R213). -/
theorem passesFirst_some (s : State) (d : Micros) :
    s.passesFirst (some d) = true ↔ s.NoDeadlineBefore d := noneBefore_iff s d

/-- Settles O33: whether the deadline is the first to pass, and then RETAIN_EXIT is sent. -/
theorem directiveDeadlineSendsRetainExit : Obligations.DirectiveDeadlineSendsRetainExit := by
  intro s d hd
  refine ⟨fun h => ?_, fun h hs => ?_, fun h hs ha => ?_⟩
  · rw [← passesFirst_some, ← hd] at h
    simp only [exec, execEntryTimeout, execExitTimeout, h, Bool.false_eq_true, and_false,
      if_false, and_self]
  · rw [← passesFirst_some, ← hd] at h
    simp only [exec, execEntryTimeout, hs, h, and_self, if_true, reachDirective_some hd]
    rfl
  · rw [← passesFirst_some, ← hd] at h
    simp only [exec, execExitTimeout, hs, ha, h, and_self, if_true, reachDirective_some hd]
    rfl

/-! ### The changes of SLP_REQ -/

/-- A rise of SLP_REQ starts the drain that it makes due (spec/04 R84). -/
theorem exec_slpReqRise_eq {s : State} (h : s.pins.slpReqHigh = false) :
    exec .slpReqRise s =
      .next (State.startDrain { s with pins := { s.pins with slpReqHigh := true } }) := by
  simp only [exec, execSlpReqRise, h, Bool.false_eq_true, if_false]

theorem exec_slpReqFall_eq {s : State} (h : s.pins.slpReqHigh = true) :
    exec .slpReqFall s = .next s.slpFell := by
  simp only [exec, execSlpReqFall, h, if_true]

/-- Settles O35: a rise starts a drain or is noted, and a fall acts by the retention state. -/
theorem slpReqChangesByRetentionState : Obligations.SlpReqChangesByRetentionState := by
  intro s high low
  refine ⟨fun hp hs hrel hrst => ?_, fun hp hs => ?_, fun hp hs => ?_, fun hp hs => ?_,
    fun hp hd hr => ?_⟩
  · rw [exec_slpReqRise_eq hp, startDrain_eq]
    simp [State.drainDue, hs, hrel, hrst]
  · rw [exec_slpReqRise_eq hp, startDrain_of_ne_active (by exact hs)]
  · simp only [exec_slpReqFall_eq hp, State.slpFell, hs]
    rfl
  · simp only [exec_slpReqFall_eq hp, State.slpFell, hs]
    rfl
  · have hnoted : s.slpFell =
        { s with pins := low, ret := { s.ret with releaseNeeded := false } } := by
      unfold State.slpFell
      split
      · next hs => exact absurd hs hd
      · next hs => exact absurd hs hr
      all_goals rfl
    rw [exec_slpReqFall_eq hp, hnoted]

end Sys2Proof.Machine
end

section
/-! The machine's step (O1). -/

namespace Sys2Proof.Machine

/-- With no command waiting and a command due, a step is that command (spec/12 R213). -/
theorem step_of_due {s : State} {c : Instr} (hp : s.pending = []) (hc : s.dueCommand = some c) :
    step s = exec c s := by
  simp only [step, hp, hc]

/-- With no command waiting and none due, a step counts a microsecond (spec/12 R213). -/
theorem step_of_idle {s : State} (hp : s.pending = []) (hc : s.dueCommand = none) :
    step s = .next s.tick := by
  simp only [step, hp, hc]

/-- Where a drain's completion is not due, a deadline that falls now is what is due. -/
theorem dueCommand_of_not_done {s : State} (h : s.drainDone = false) :
    s.dueCommand = s.dueTimeout := by
  rw [State.dueCommand, h, if_neg Bool.false_ne_true]

/-- An entry has a deadline while it is IN_USE (spec/06 R129). -/
theorem TagEntry.deadline_eq_some {x : TagEntry} {d : Micros} :
    x.deadline = some d ↔ ∃ o, x = .inUse o d := by
  cases x <;> simp [TagEntry.deadline]

/-- With no deadline at or before the clock's instant none falls now. -/
theorem not_fallsNow {s : State} (h : s.NoDeadlineBefore (s.now + 1)) {x : Option Micros}
    (hx : (∃ t : Tag, s.tags[t].deadline = x) ∨ s.ret.deadline = x) : s.fallsNow x = false := by
  rw [Bool.eq_false_iff, ne_eq, fallsNow_iff]
  rintro ⟨d, rfl, hd, -⟩
  obtain ⟨htags, hret⟩ := h
  have hlate : s.now < d := by
    rcases hx with ⟨t, ht⟩ | hx
    · obtain ⟨o, ho⟩ := TagEntry.deadline_eq_some.1 ht
      exact htags t o d ho
    · exact hret d hx
  exact absurd hd (Nat.not_le.2 hlate)

/-- With no deadline at or before the clock's instant nothing is due but a drain's completion. -/
theorem dueTimeout_eq_none {s : State} (h : s.NoDeadlineBefore (s.now + 1)) :
    s.dueTimeout = none := by
  have htag : s.dueTag = none := by
    simp only [State.dueTag, List.find?_eq_none, Bool.not_eq_true]
    exact fun t _ => not_fallsNow h (.inl ⟨t, rfl⟩)
  simp only [State.dueTimeout, htag, not_fallsNow h (.inr rfl), Bool.false_eq_true, if_false]

/-- Under the clock law a response deadline falls now exactly where it is the clock's instant. -/
theorem fallsNow_tag_iff {s : State} (h : s.ClockLaw) (t : Tag) :
    s.fallsNow s.tags[t].deadline = true ↔ ∃ o, s.tags[t] = .inUse o s.now := by
  rw [fallsNow_iff]
  refine ⟨?_, fun ho => ⟨s.now, TagEntry.deadline_eq_some.2 ho, le_rfl, h⟩⟩
  rintro ⟨d, hd, hle, -⟩
  obtain ⟨o, ho⟩ := TagEntry.deadline_eq_some.1 hd
  exact ⟨o, by rw [ho, Nat.le_antisymm hle (h.1 t o d ho)]⟩

/-- Of the deadlines that fall now the lowest tag's is due (notes/assumptions/4.md). -/
theorem dueTag_eq {s : State} (h : s.ClockLaw) {t : Tag} {o : Origin}
    (ht : s.tags[t] = .inUse o s.now) (hlow : ∀ u : Tag, u < t → ∀ o, s.tags[u] ≠ .inUse o s.now) :
    s.dueTag = some t := by
  rw [State.dueTag, List.find?_eq_some_iff_getElem]
  refine ⟨(fallsNow_tag_iff h t).2 ⟨o, ht⟩, t.val, by simp, by simp, fun j hj => ?_⟩
  rw [Bool.not_eq_true', Bool.eq_false_iff, List.getElem_finRange]
  intro hfalls
  obtain ⟨p, hp⟩ := (fallsNow_tag_iff h _).1 hfalls
  exact hlow _ hj p hp

/-- With no response deadline at the clock's instant no tag is due. -/
theorem dueTag_eq_none {s : State} (h : s.ClockLaw)
    (hno : ∀ (u : Tag) o, s.tags[u] ≠ .inUse o s.now) : s.dueTag = none := by
  simp only [State.dueTag, List.find?_eq_none, fallsNow_tag_iff h]
  rintro u - ⟨o, ho⟩
  exact hno u o ho

/-- With the directive deadline at the clock's instant and no tag's, its event is due. -/
theorem dueTimeout_directive {s : State} (h : s.ClockLaw) (hd : s.ret.deadline = some s.now)
    (hno : ∀ (u : Tag) o, s.tags[u] ≠ .inUse o s.now) : s.dueTimeout = s.ret.timeout := by
  have hfalls : s.fallsNow s.ret.deadline = true :=
    (fallsNow_iff s _).2 ⟨s.now, hd, le_rfl, h⟩
  simp only [State.dueTimeout, dueTag_eq_none h hno, hfalls, if_true]

/-- Settles O1: the front command, and else what is due or a tick. -/
theorem stepRunsTheFrontCommand : Obligations.StepRunsTheFrontCommand := by
  intro s
  refine ⟨fun c rest hp => by simp only [step, hp], fun hp hs ht hm => ?_, fun hp hno hd => ?_,
    fun hp hclock => ⟨fun t hlow => ⟨fun k a h l ht => ?_, fun a c o ht => ?_⟩, fun hd hno => ?_⟩⟩
  · refine step_of_due hp ?_
    rw [State.dueCommand, (drainDone_iff s).2 ⟨hs, ht, hm⟩, if_pos rfl]
  · refine step_of_idle hp ?_
    rw [dueCommand_of_not_done (drainDone_eq_false hno), dueTimeout_eq_none hd]
  · refine step_of_due hp ?_
    rw [dueCommand_of_not_done (drainDone_false_of_inUse ht), State.dueTimeout,
      dueTag_eq hclock ht hlow]
    simp only [ht, TagEntry.timeout]
  · refine step_of_due hp ?_
    rw [dueCommand_of_not_done (drainDone_false_of_inUse ht), State.dueTimeout,
      dueTag_eq hclock ht hlow]
    simp only [ht, TagEntry.timeout]
  · have hdue {c : Instr} (hs : s.ret.state ≠ .draining) (hc : s.ret.timeout = some c) :
        step s = exec c s := by
      refine step_of_due hp ?_
      rw [dueCommand_of_not_done (drainDone_eq_false (.inl hs)),
        dueTimeout_directive hclock hd hno, hc]
    refine ⟨fun hs => ?_, fun hs ha => ?_, fun hs ha => ?_⟩
    · exact hdue (by simp [hs]) (by simp [Retention.timeout, hs])
    · exact hdue (by simp [hs]) (by simp [Retention.timeout, hs, ha])
    · exact hdue (by simp [hs]) (by simp [Retention.timeout, hs, ha])

end Sys2Proof.Machine
end

section
/-! The long commands: the ones answered BUSY or refused (O55), and the walks of the range commands
(O59). -/

namespace Sys2Proof.Machine

/-! ### BUSY and refusals -/

/-- With no command running, the first failing check refuses a long command (spec/09 R185). -/
theorem next_takeLong_refused {s : State} (hf : s.FrameOpen) (hr : s.port.running = none)
    (c : LongCmd) {why : Option Reason} {r : Reason} {acc : State} (hw : why = some r) :
    (.next (s.takeLong c (takenAt c) why acc) : Host.Outcome State Fault Refusal) =
      .next { s with port := { s.port with
        frame := some (takenFrame (takenAt c) [0x03, r.code]),
        result := { command := some c, outcome := .refused r,
                    changed := 0, unchanged := 0 } } } := by
  rw [hw, takeLong_refused hf c (takenAt c) r acc (busyFor_of_not_running hr c)]

/-- A frame that carries a long command takes it (spec/09 R195). -/
theorem exec_carriesLong {c : Instr} {lc : LongCmd} (h : CarriesLong c lc) (s : State) :
    ∃ n why acc, exec c s = .next (s.takeLong lc n why acc) := by
  cases lc with
  | engage => obtain ⟨o, rfl⟩ := h; exact ⟨_, _, _, rfl⟩
  | disengage | restart => cases h; exact ⟨_, _, _, rfl⟩
  | discard | prepare | adopt => obtain ⟨f, l, rfl⟩ := h; exact ⟨_, _, _, rfl⟩

/-- While another command runs a long command is BUSY, but for RESTART over an ADOPT held in HALTED
(spec/09 R178, spec/05 R123). -/
theorem busyFor_of_running {s : State} {c r : LongCmd} (hr : s.port.running = some r)
    (hno : ¬ (c = .restart ∧ r = .adopt ∧ s.ret.state = .halted)) : s.busyFor c = true := by
  simp only [State.busyFor, hr, Bool.not_eq_true', Bool.eq_false_iff]
  simpa [and_assoc] using hno

/-- An option byte other than 0 and 1 stands for no ENGAGE option (spec/10 R199). -/
theorem engageOption_eq_none {o : Byte} (h0 : o ≠ 0) (h1 : o ≠ 1) : engageOption o = none := by
  rw [engageOption, if_neg h0, if_neg h1]

/-- The range check passes where first ≤ last ≤ 127 (spec/05 R109). -/
theorem rangeOk_iff (f l : Byte) : rangeOk f l = true ↔ f.toNat ≤ l.toNat ∧ l.toNat ≤ 127 := by
  simp [rangeOk]

/-- Settles O55: BUSY by the running command, and each refusal by the first check that fails. -/
theorem longCommandIsBusyOrRefused : Obligations.LongCommandIsBusyOrRefused := by
  intro s hf refused badRange
  refine ⟨fun c lc r hc hr hno => ?_, fun hr => ?_⟩
  · obtain ⟨n, why, acc, he⟩ := exec_carriesLong hc s
    rw [he, takeLong_busy hf lc n why acc (busyFor_of_running hr hno)]
  · have hbad {f l : Byte} (h : badRange f l) : rangeOk f l = false := by
      rwa [Bool.eq_false_iff, ne_eq, rangeOk_iff]
    refine ⟨fun o hm => ?_, fun o hm hs => ?_, fun o hm hs h0 h1 => ?_,
      fun hm => ⟨?_, fun f l => ?_⟩, fun hm hs => ⟨?_, fun f l => ?_⟩,
      fun hm f l hrange => ⟨?_, ?_, fun hs => ?_⟩,
      fun hs hh => ?_⟩
    · exact next_takeLong_refused hf hr .engage (by
        simp [State.judgeEngage, firstFailure, State.modeIs, hm])
    · exact next_takeLong_refused hf hr .engage (by
        simp [State.judgeEngage, firstFailure, State.modeIs, State.retActive, hm, hs])
    · exact next_takeLong_refused hf hr .engage (by
        simp [State.judgeEngage, firstFailure, State.modeIs, State.retActive, hm, hs,
          engageOption_eq_none h0 h1])
    · exact next_takeLong_refused hf hr .disengage (by
        simp [State.judgeDisengage, firstFailure, State.modeIs, hm])
    · have hrange : s.judgeRange f l = some .mode := by
        simp [State.judgeRange, firstFailure, State.modeIs, hm]
      exact ⟨next_takeLong_refused hf hr .discard hrange,
        next_takeLong_refused hf hr .prepare hrange, next_takeLong_refused hf hr .adopt (by
          simp [State.judgeAdopt, firstFailure, State.modeIs, hm])⟩
    · exact next_takeLong_refused hf hr .disengage (by
        simp [State.judgeDisengage, firstFailure, State.modeIs, State.retActive, hm, hs])
    · exact next_takeLong_refused hf hr .adopt (by
        simp [State.judgeAdopt, firstFailure, State.modeIs, State.retActive, hm, hs])
    · exact next_takeLong_refused hf hr .discard (by
        simp [State.judgeRange, firstFailure, State.modeIs, hm, hbad hrange])
    · exact next_takeLong_refused hf hr .prepare (by
        simp [State.judgeRange, firstFailure, State.modeIs, hm, hbad hrange])
    · exact next_takeLong_refused hf hr .adopt (by
        simp [State.judgeAdopt, firstFailure, State.modeIs, State.retActive, hm, hs, hbad hrange])
    · exact next_takeLong_refused hf hr .restart (by
        simp [State.judgeRestart, firstFailure, State.retActive, hs, hh])

/-! ### The walk of a range command -/

/-- A tile's number fits a frame byte (spec/09 R195). -/
theorem toNat_byte_of_tile (t : Tile) : (BitVec.ofNat 8 t.val).toNat = t.val := by
  rw [BitVec.toNat_ofNat]
  omega

/-- A range command judged fit is accepted with its walk at the first tile (spec/05 R110). -/
theorem next_takeLong_range {s : State} (hf : s.FrameOpen) (hr : s.port.running = none)
    (c : LongCmd) (first last : Tile) {why : Option Reason} (hw : why = none) :
    (.next (s.takeLong c (takenAt c) why
        (s.acceptRange c (BitVec.ofNat 8 first.val) (BitVec.ofNat 8 last.val))) :
      Host.Outcome State Fault Refusal) =
      .next { s with port := s.port.accepted c (some { next := first, last := last }) } := by
  have hacc : s.acceptRange c (BitVec.ofNat 8 first.val) (BitVec.ofNat 8 last.val) =
      { s with port := { s.port with running := some c, result := runningRecord c,
                                     rangeWalk := some { next := first, last := last } } } := by
    simp only [State.acceptRange, State.begin, toNat_byte_of_tile, Fin.ofNat_val_eq_self]
  rw [hw, hacc, takeLong_accepted hf c (takenAt c) _ (busyFor_of_not_running hr c)]
  rfl

/-- What a range walk's claim on its next tile counts, from s to t: the tile as changed or not, and
the walk on to the next tile or DONE (spec/05 R111, R112). -/
def State.CountsClaim (s : State) (w : RangeWalk) (t : State) : Prop :=
  (t.tiles[w.next] ≠ s.tiles[w.next] →
    t.port.result.changed = s.port.result.changed + 1 ∧
    t.port.result.unchanged = s.port.result.unchanged) ∧
  (t.tiles[w.next] = s.tiles[w.next] →
    t.port.result.changed = s.port.result.changed ∧
    t.port.result.unchanged = s.port.result.unchanged + 1) ∧
  t.port.result.command = s.port.result.command ∧
  (w.next ≠ w.last →
    t.port.rangeWalk = some { next := w.next + 1, last := w.last } ∧
    t.port.running = s.port.running ∧ t.port.result.outcome = s.port.result.outcome) ∧
  (w.next = w.last →
    t.port.rangeWalk = none ∧ t.port.running = none ∧ t.port.result.outcome = .done)

/-- A claim that tells rightly whether it changed its tile, and leaves the port, is counted
(spec/05 R112). -/
theorem countsClaim_advanceWalk {s : State} {w : RangeWalk} (x : State × Bool)
    (hp : x.1.port = s.port) (hx : x.2 = true ↔ x.1.tiles[w.next] ≠ s.tiles[w.next]) :
    s.CountsClaim w (x.1.advanceWalk w x.2) := by
  obtain ⟨u, b⟩ := x
  dsimp only at hp hx
  have hport : (u.advanceWalk w b).port = s.port.advance w b := by
    rw [State.advanceWalk, hp]
  have htile : (u.advanceWalk w b).tiles[w.next] = u.tiles[w.next] := rfl
  rw [State.CountsClaim, hport, htile, MgmtPort.advance_eq, MgmtPort.counted]
  generalize u.tiles[w.next] = new at hx ⊢
  generalize s.tiles[w.next] = old at hx ⊢
  cases b with
  | false =>
    have hsame : new = old := by simpa using hx
    by_cases hend : w.next = w.last <;> simp [hend, hsame, ResultRecord.countUnchanged]
  | true =>
    have hdiff : new ≠ old := hx.1 rfl
    by_cases hend : w.next = w.last <;> simp [hend, hdiff, ResultRecord.countChanged]

/-! ### What a claim changes -/

/-- A discard claim tells whether it changed its tile, and leaves the port (spec/01 R13). -/
theorem discardTile_tells (s : State) (t : Tile) :
    (s.discardTile t).1.port = s.port ∧
      ((s.discardTile t).2 = true ↔ (s.discardTile t).1.tiles[t] ≠ s.tiles[t]) := by
  unfold State.discardTile
  split <;> next h => simp [h]

/-- A prepare claim tells whether it changed its tile, and leaves the port (spec/01 R14). -/
theorem prepareTile_tells (s : State) (t : Tile) :
    (s.prepareTile t).1.port = s.port ∧
      ((s.prepareTile t).2 = true ↔ (s.prepareTile t).1.tiles[t] ≠ s.tiles[t]) := by
  unfold State.prepareTile
  split <;> next h => simp [h]

/-- An adopt claim tells whether it changed its tile, and leaves the port (spec/05 R121). -/
theorem adoptTile_tells (s : State) (t : Tile) :
    (s.adoptTile t).1.port = s.port ∧
      ((s.adoptTile t).2 = true ↔ (s.adoptTile t).1.tiles[t] ≠ s.tiles[t]) := by
  unfold State.adoptTile
  split <;> next h => simp [h]

/-- Every claim of a walk is counted (spec/05 R111, R112). -/
theorem countsClaim_of_walks {s t : State} {w : RangeWalk} {c : Instr} (hw : s.Walks c w)
    (he : exec c s = .next t) : s.CountsClaim w t := by
  obtain ⟨-, ⟨rfl, -⟩ | ⟨rfl, -⟩ | ⟨rfl, -⟩⟩ := id hw
  · rw [exec_discardClaim_eq hw] at he
    obtain ⟨hp, hx⟩ := discardTile_tells s w.next
    exact next_inj (countsClaim_advanceWalk _ hp hx) he
  · rw [exec_prepareClaim_eq hw] at he
    obtain ⟨hp, hx⟩ := prepareTile_tells s w.next
    exact next_inj (countsClaim_advanceWalk _ hp hx) he
  · rw [exec_adoptClaim_eq hw] at he
    obtain ⟨hp, hx⟩ := adoptTile_tells s w.next
    exact next_inj (countsClaim_advanceWalk _ hp hx) he

/-! ### Claims that wait -/

/-- An ADOPT claim is held outside ACTIVE and DRAINING (spec/04 R105). -/
theorem exec_adoptClaim_held {s : State} (h : s.adoptHeld = true) :
    exec .adoptClaim s = .next s := by
  simp only [exec, execAdoptClaim, h, if_true]
  split <;> rfl

/-- A PREPARE claim waits for a take that is due (spec/05 R119). -/
theorem exec_prepareClaim_waits {s : State} (h : s.takeDue = true) :
    exec .prepareClaim s = .next s := by
  simp only [exec, execPrepareClaim, h, if_true]
  split <;> rfl

/-- Settles O59: the acceptance, the count of each claim, and the claims that wait. -/
theorem rangeCommandWalksItsRange : Obligations.RangeCommandWalksItsRange := by
  intro s
  refine ⟨fun first last hf hr hm hle => ?_, fun w c t hw he => countsClaim_of_walks hw he,
    fun _ hs => ?_, fun c t rest _ hq ht hm hidle hp => ?_⟩
  · intro f l w
    have hok : rangeOk f l = true := by
      rw [rangeOk_iff, toNat_byte_of_tile, toNat_byte_of_tile]
      exact ⟨hle, Nat.le_of_lt_succ last.isLt⟩
    have hrange : s.judgeRange f l = none := by
      simp [State.judgeRange, firstFailure, State.modeIs, hm, hok]
    exact ⟨next_takeLong_range hf hr .discard first last hrange,
      next_takeLong_range hf hr .prepare first last hrange, fun hs =>
      next_takeLong_range hf hr .adopt first last (by
        simp [State.judgeAdopt, firstFailure, State.modeIs, State.retActive, hm, hs, hok])⟩
  · refine exec_adoptClaim_held ?_
    rcases hs with hs | hs | hs | hs <;> simp only [State.adoptHeld, hs]
  · refine exec_prepareClaim_waits ((takeDue_iff s).2 ⟨t, rest, hq, ht, ?_⟩)
    have hcan := (canTake_iff s c).2 ⟨hidle, hp, hm⟩
    cases c
    · exact .inl hcan
    · exact .inr hcan

end Sys2Proof.Machine
end

section
/-! The port law (spec/09 R185 to R187, spec/10 R197): what it reads, and the law with no command
running and command by command. -/

namespace Sys2Proof.Machine

/-! ### What the law reads -/

/-- What the port law reads: the running command, the record's command and outcome, the range walk
and the mode. The counts of the record and the frame are not among it. -/
def State.portView (s : State) :
    Option LongCmd × Option LongCmd × LongOutcome × Option RangeWalk × Mode :=
  (s.port.running, s.port.result.command, s.port.result.outcome, s.port.rangeWalk, s.control.mode)

theorem State.portView_eq {s t : State} (hp : t.port = s.port) (hc : t.control = s.control) :
    t.portView = s.portView := by
  rw [State.portView, hp, hc, State.portView]

theorem State.PortLaw.congr {s t : State} (h : s.PortLaw) (he : t.portView = s.portView) :
    t.PortLaw := by
  simp only [State.portView, Prod.mk.injEq] at he
  obtain ⟨hr, hc, ho, hw, hm⟩ := he
  rwa [State.PortLaw, hr, hc, ho, hw, hm]

/-! ### The law, command by command -/

/-- The mode and the range walk that go with a running command: ENGAGE, DISENGAGE and RESTART have a
mode of their own and no range walk, and a range command runs in a settled mode with its walk not
past its last tile (spec/05 R110, spec/10 R197). -/
def LongCmd.Fits : LongCmd → Mode → Option RangeWalk → Prop
  | .engage, m, w => m = .engaging ∧ w = none
  | .disengage, m, w => m = .disengaging ∧ w = none
  | .restart, m, w => m = .restarting ∧ w = none
  | .discard, m, w | .prepare, m, w | .adopt, m, w =>
    m.settled = true ∧ ∃ x, w = some x ∧ x.next ≤ x.last

/-- A range walk that is there exactly where one is called for, and is not past its last tile. -/
theorem rangeWalk_some_iff (w : Option RangeWalk) :
    (w.isSome = true ∧ ∀ x, w = some x → x.next ≤ x.last) ↔ ∃ x, w = some x ∧ x.next ≤ x.last := by
  cases w <;> simp

/-- With no command running, the outcome is not RUNNING, no walk stands and the mode has settled. -/
theorem portLaw_iff_of_idle {s : State} (hr : s.port.running = none) :
    s.PortLaw ↔
      s.port.result.outcome ≠ .running ∧ s.control.mode.settled = true ∧
        s.port.rangeWalk = none := by
  simp only [State.PortLaw, hr]
  cases s.control.mode <;> cases s.port.rangeWalk <;> simp [Mode.settled]

/-- While a command runs, the outcome is RUNNING, the record is the command's, and the mode and the
walk fit it. -/
theorem portLaw_iff_of_running {s : State} {c : LongCmd} (hr : s.port.running = some c) :
    s.PortLaw ↔
      s.port.result.outcome = .running ∧ s.port.result.command = some c ∧
        c.Fits s.control.mode s.port.rangeWalk := by
  cases c with
  | engage | disengage | restart =>
    simp only [State.PortLaw, hr, LongCmd.Fits]
    cases s.control.mode <;> cases s.port.rangeWalk <;> simp
  | discard | prepare | adopt =>
    simp only [State.PortLaw, hr, LongCmd.Fits, ← rangeWalk_some_iff]
    cases s.control.mode <;> simp [Mode.settled]

/-- A range walk stands while a range command runs, in a settled mode, and is not past its last tile
(spec/05 R110). -/
theorem State.PortLaw.running_of_walk {s : State} (h : s.PortLaw) {w : RangeWalk}
    (hw : s.port.rangeWalk = some w) :
    s.port.result.outcome = .running ∧ s.control.mode.settled = true ∧ w.next ≤ w.last ∧
      ∃ c, s.port.running = some c ∧ s.port.result.command = some c ∧
        ∀ x : RangeWalk, x.next ≤ x.last → c.Fits s.control.mode (some x) := by
  cases hr : s.port.running with
  | none => simp [((portLaw_iff_of_idle hr).1 h).2.2] at hw
  | some c =>
    obtain ⟨ho, hc, hf⟩ := (portLaw_iff_of_running hr).1 h
    rw [hw] at hf
    cases c with
    | engage | disengage | restart => simp [LongCmd.Fits] at hf
    | discard | prepare | adopt =>
      obtain ⟨hm, x, hx, hle⟩ := hf
      cases hx
      exact ⟨ho, hm, hle, _, rfl, hc, fun y hy => ⟨hm, y, rfl, hy⟩⟩

end Sys2Proof.Machine
end

section
/-! Every step keeps the port law (O10): the operations that leave what it reads, the ends of the
long commands, their acceptance and their walks, and the commands. -/

namespace Sys2Proof.Machine

/-! ### Operations that leave what the law reads -/

theorem State.flush_portView (s : State) (st : HostStatus) :
    (s.flush st).portView = s.portView := by
  simp only [State.flush, respondAll_eq]
  rfl

theorem State.handArrival_portView (s : State) (r : HostRequest) :
    (s.handArrival r).portView = s.portView := by
  unfold State.handArrival
  (repeat' split) <;> rfl

theorem State.receive_portView (s : State) (r : HostRequest) :
    (s.receive r).portView = s.portView := by
  unfold State.receive
  dsimp only
  split
  · rfl
  · exact State.handArrival_portView _ r

theorem State.settleHead_portView (s : State) (r : HostRequest) (d : Decision) :
    (s.settleHead r d).portView = s.portView := by
  cases d with
  | answer st data n => cases n <;> rfl
  | forward how => rfl
  | wait => rfl
  | claim c => cases c <;> rfl

theorem State.setChan_portView (s : State) (c : Chan) (r : Channel) :
    (s.setChan c r).portView = s.portView :=
  State.portView_eq (by simp) (by simp)

theorem State.examineChans_portView (s : State) : s.examineChans.portView = s.portView := rfl

theorem State.startFill_portView (s : State) (t : Tile) (c : Chan) :
    (s.startFill t c).portView = s.portView :=
  State.portView_eq (by simp) (by simp)

theorem State.issueEffect_portView (s : State) (t : Tag) (how : IssueForm) :
    (s.issueEffect t how).portView = s.portView := by
  cases how with
  | plain | writeClaim _ => rfl
  | reissue c o | insert c o => exact s.setChan_portView c _

theorem State.issueHead_portView (s : State) (r : HostRequest) (t : Tag) (how : IssueForm) :
    (s.issueHead r t how).portView = s.portView := by
  obtain ⟨tags, l, he⟩ := s.passHead_issue_eq t
    (.host r.body.kind (burstAddr r.addr) r.tag how.link) (burstAddr r.addr)
    (how.body s.settings r.body)
  simp only [State.issueHead, he]
  exact State.issueEffect_portView _ t how

theorem State.grantHead_portView (s : State) (r : HostRequest) (t : Tag) :
    (s.grantHead r t).portView = s.portView := by
  by_cases hf : ∃ how, classify s r = .forward how
  · obtain ⟨how, hc⟩ := hf
    simp only [State.grantHead, hc]
    exact s.issueHead_portView r t how
  · rw [grantHead_eq_settleHead t fun how hc => hf ⟨how, hc⟩]
    exact s.settleHead_portView r _

theorem State.grantChan_portView (s : State) (c : Chan) (tag : Tag) :
    (s.grantChan c tag).portView = s.portView := by
  have hself := s.setChan_portView c (s.chan c)
  unfold State.grantChan
  split
  · split
    · exact hself
    · split
      · exact State.setChan_portView _ c _
      · split
        · exact State.setChan_portView _ c _
        · exact hself
  · exact hself
  · exact hself

theorem State.startDrain_portView (s : State) : s.startDrain.portView = s.portView :=
  State.portView_eq (by simp) (by simp)

theorem State.settleDrain_portView (s : State) : s.settleDrain.portView = s.portView :=
  State.portView_eq (by simp) (by simp)

theorem State.entered_portView (s : State) : s.entered.portView = s.portView := by
  unfold State.entered
  dsimp only
  split <;> rfl

theorem State.exited_portView (s : State) : s.exited.portView = s.portView :=
  State.startDrain_portView _

theorem State.slpFell_portView (s : State) : s.slpFell.portView = s.portView := by
  unfold State.slpFell
  dsimp only
  split <;> rfl

theorem State.reachDirective_portView (s : State) :
    s.reachDirective.portView = s.portView := by
  obtain ⟨d, he⟩ := s.reachDirective_eq
  rw [he]
  rfl

theorem State.halted_portView (s : State) : s.halted.portView = s.portView :=
  State.flush_portView _ _

theorem State.takeDone_portView (s : State) (wanted : RetState) {matched : State → State}
    (hm : ∀ u : State, (matched u).portView = u.portView) :
    (s.takeDone wanted matched).portView = s.portView := by
  unfold State.takeDone
  split
  · dsimp only
    split
    · exact (hm _).trans s.settleDrain_portView
    · exact s.settleDrain_portView
  · rfl

theorem State.raiseSelect_portView (s : State) : s.raiseSelect.portView = s.portView := by
  unfold State.raiseSelect
  split <;> rfl

/-! ### The end of a long command -/

/-- A port whose command is done keeps the law in a settled mode (spec/09 R187). -/
theorem State.portLaw_of_finish {s : State} {p : MgmtPort} (hp : s.port = p.finish)
    (hm : s.control.mode.settled = true) : s.PortLaw := by
  have hr : s.port.running = none := by rw [hp]; rfl
  rw [portLaw_iff_of_idle hr, hp]
  exact ⟨by simp [MgmtPort.finish], hm, rfl⟩

/-- The ENGAGE walk ends in ENGAGED (spec/10 R201). -/
theorem State.portLaw_endEngage (s : State) : s.endEngage.PortLaw :=
  State.PortLaw.congr (State.portLaw_of_finish (p := s.port) rfl rfl)
    (State.settleDrain_portView _)

/-- DISENGAGE ends in BYPASS, or goes on (spec/10 R203). -/
theorem State.PortLaw.settleDisengage {s : State} (h : s.PortLaw) : s.settleDisengage.PortLaw := by
  unfold State.settleDisengage
  split
  · exact State.PortLaw.congr (State.portLaw_of_finish (p := s.port) rfl rfl)
      (State.settleDrain_portView _)
  · exact h

/-- RESTART ends in BYPASS, or waits (spec/10 R206). -/
theorem State.PortLaw.settleRestart {s : State} (h : s.PortLaw) : s.settleRestart.PortLaw := by
  rcases settleRestart_cases s with ⟨-, he⟩ | he
  · rw [he]
    exact State.PortLaw.congr (State.portLaw_of_finish (p := s.port) rfl rfl)
      (State.startDrain_portView _)
  · rwa [he]

theorem State.PortLaw.settleTag {s : State} (h : s.PortLaw) : s.settleTag.PortLaw := by
  unfold State.settleTag
  split
  · exact h.settleRestart
  · exact h.settleDisengage
  · exact h.congr s.settleDrain_portView
  · exact h.congr s.settleDrain_portView
  · exact h

/-- The outcome of a downstream request leaves the port, and may end a command (spec/06 R136 to
R138). -/
theorem State.PortLaw.takeResponse {s : State} (h : s.PortLaw) (t : Tag) (st : MemStatus)
    (data : Burst) : (s.takeResponse t st data).PortLaw := by
  unfold State.takeResponse
  split
  · exact h.congr rfl
  · exact h.congr rfl
  · exact (h.congr (State.portView_eq (by simp) (by simp))).settleTag
  · exact (h.congr (State.portView_eq (by simp) (by simp))).settleTag

/-- Hard reset leaves no command running, in BYPASS (spec/12 R213). -/
theorem State.portLaw_hardReset (s : State) : s.hardReset.PortLaw := by
  refine (portLaw_iff_of_idle rfl).2 ⟨?_, rfl, rfl⟩
  simp [State.hardReset, State.reset, MgmtPort.reset]

/-! ### Taking a command -/

/-- A command that is taken keeps the law where its event does (spec/09 R176). -/
theorem State.PortLaw.takeCommand {s : State} (h : s.PortLaw) (t : Nat) {after : State}
    (ha : after.PortLaw) (reply : List Byte) : (s.takeCommand t after reply).PortLaw := by
  unfold State.takeCommand
  split
  · exact ha.congr rfl
  · exact h

/-- A refusal is recorded where no command runs (spec/09 R185). -/
theorem State.PortLaw.setRefused {s : State} (h : s.PortLaw) (hr : s.port.running = none)
    (c : LongCmd) (why : Reason) :
    ({ s with port := { s.port with result := refusedRecord c why } } : State).PortLaw := by
  obtain ⟨-, hm, hw⟩ := (portLaw_iff_of_idle hr).1 h
  exact (portLaw_iff_of_idle (by exact hr)).2 ⟨by simp [refusedRecord], hm, hw⟩

/-- A command that is not turned away with BUSY finds no other running, or is a RESTART over an
ADOPT held in HALTED (spec/09 R178, spec/05 R123). -/
theorem idle_or_restart_of_not_busy {s : State} {c : LongCmd} (h : s.busyFor c = false) :
    s.port.running = none ∨ (c = .restart ∧ s.ret.state = .halted) := by
  cases hr : s.port.running with
  | none => exact .inl rfl
  | some r =>
    refine .inr ?_
    by_contra hno
    rw [busyFor_of_running hr fun ⟨hc, _, hs⟩ => hno ⟨hc, hs⟩] at h
    cases h

/-- In HALTED no RESTART is refused (spec/10 R204). -/
theorem judgeRestart_of_halted {s : State} (h : s.ret.state = .halted) :
    s.judgeRestart = none := by
  simp [State.judgeRestart, firstFailure, h]

/-- A long command keeps the law where its acceptance does, and where it is refused with no command
running (spec/09 R175, R185). -/
theorem State.PortLaw.takeLong {s : State} (h : s.PortLaw) (c : LongCmd) (t : Nat)
    {why : Option Reason} {accepted : State} (ha : why = none → accepted.PortLaw)
    (hr : c = .restart → s.ret.state = .halted → why = none) :
    (s.takeLong c t why accepted).PortLaw := by
  unfold State.takeLong
  split
  · cases hb : s.busyFor c
    · refine h.takeCommand t ?_ _
      cases why with
      | none => exact ha rfl
      | some r =>
        rcases idle_or_restart_of_not_busy hb with hidle | ⟨hc, hs⟩
        · exact h.setRefused hidle c r
        · cases hr hc hs
    · exact h.congr rfl
  · exact h

/-! ### Acceptance -/

/-- A state that a long command has just been accepted in keeps the law where the mode and the walk
fit the command (spec/09 R185). -/
theorem State.portLaw_of_accepted {s : State} {c : LongCmd} (hr : s.port.running = some c)
    (hres : s.port.result = runningRecord c) (hf : c.Fits s.control.mode s.port.rangeWalk) :
    s.PortLaw := by
  rw [portLaw_iff_of_running hr, hres]
  exact ⟨rfl, rfl, hf⟩

theorem State.PortLaw.acceptEngage {s : State} (h : s.PortLaw) (option : Byte) :
    (s.acceptEngage option).PortLaw := by
  unfold State.acceptEngage
  split
  · exact h
  · exact State.portLaw_of_accepted rfl rfl ⟨rfl, rfl⟩

theorem State.portLaw_acceptDisengage (s : State) : s.acceptDisengage.PortLaw := by
  have hstop : s.disengaging.PortLaw := State.portLaw_of_accepted rfl rfl ⟨rfl, rfl⟩
  rw [acceptDisengage_eq]
  exact hstop.settleDisengage

theorem State.portLaw_acceptRestart (s : State) : s.acceptRestart.PortLaw := by
  have hbegun : ({ s.begin .restart with control := { mode := .restarting, walk := none } } :
      State).PortLaw := State.portLaw_of_accepted rfl rfl ⟨rfl, rfl⟩
  exact State.PortLaw.settleRestart
    (hbegun.congr ((State.examineChans_portView _).trans (State.flush_portView _ _)))

/-- A range command is accepted in a settled mode with its walk at the first tile, not past the last
(spec/05 R109, R110). -/
theorem State.portLaw_acceptRange {s : State} {c : LongCmd}
    (hc : c = .discard ∨ c = .prepare ∨ c = .adopt) {first last : Byte}
    (hm : s.control.mode = .engaged) (hok : rangeOk first last = true) :
    (s.acceptRange c first last).PortLaw := by
  obtain ⟨hle, hlast⟩ := (rangeOk_iff first last).1 hok
  have hwalk : (Fin.ofNat 128 first.toNat : Tile) ≤ Fin.ofNat 128 last.toNat := by
    rw [Fin.le_def, Fin.val_ofNat, Fin.val_ofNat]
    omega
  have hset : s.control.mode.settled = true := by rw [hm]; rfl
  refine State.portLaw_of_accepted (c := c) rfl rfl ?_
  rcases hc with rfl | rfl | rfl <;> exact ⟨hset, _, rfl, hwalk⟩

/-- The checks of DISCARD and PREPARE, where none fails (spec/05 R109). -/
theorem judgeRange_eq_none {s : State} {f l : Byte} (h : s.judgeRange f l = none) :
    s.control.mode = .engaged ∧ rangeOk f l = true :=
  ⟨mode_of_firstFailure .engaged .mode (by simp) h,
    firstFailure_none h (rangeOk f l, .range) (by simp)⟩

/-- The checks of ADOPT, where none fails (spec/05 R109). -/
theorem judgeAdopt_eq_none {s : State} {f l : Byte} (h : s.judgeAdopt f l = none) :
    s.control.mode = .engaged ∧ rangeOk f l = true :=
  ⟨mode_of_firstFailure .engaged .mode (by simp) h,
    firstFailure_none h (rangeOk f l, .range) (by simp)⟩

/-- A range command keeps the law where its checks are those of R109. -/
theorem State.PortLaw.takeRange {s : State} (h : s.PortLaw) {c : LongCmd}
    (hc : c = .discard ∨ c = .prepare ∨ c = .adopt) (t : Nat) {why : Option Reason}
    {first last : Byte}
    (hj : why = none → s.control.mode = .engaged ∧ rangeOk first last = true) :
    (s.takeLong c t why (s.acceptRange c first last)).PortLaw := by
  refine h.takeLong c t (fun hw => ?_) fun hr => ?_
  · obtain ⟨hm, hok⟩ := hj hw
    exact State.portLaw_acceptRange hc hm hok
  · simp [hr] at hc

/-! ### The walks -/

/-- Each claim of the ENGAGE walk counts a tile, and the last one ends ENGAGE (spec/10 R200,
R201). -/
theorem execEngageWalkClaim_keeps_port {s t : State} (h : s.PortLaw)
    (he : execEngageWalkClaim s = .next t) : t.PortLaw := by
  refine next_inj ?_ he
  split
  · exact h
  · split
    · split
      · exact State.portLaw_endEngage _
      · exact h.congr rfl
    · exact h

/-- A range walk goes on to a tile that is not past its last, or its command is done
(spec/05 R111). -/
theorem State.PortLaw.advanceWalk {s : State} (h : s.PortLaw) {w : RangeWalk}
    (hw : s.port.rangeWalk = some w) (changed : Bool) : (s.advanceWalk w changed).PortLaw := by
  obtain ⟨ho, hm, hle, c, hr, hc, hfits⟩ := h.running_of_walk hw
  unfold State.advanceWalk MgmtPort.advance
  dsimp only
  by_cases hend : w.next = w.last
  · rw [if_pos hend]
    exact State.portLaw_of_finish rfl hm
  · rw [if_neg hend]
    have hnext : w.next + 1 ≤ w.last := Fin.add_one_le_of_lt (lt_of_le_of_ne hle hend)
    refine (portLaw_iff_of_running (c := c) (by exact hr)).2 ?_
    cases changed <;> exact ⟨ho, hc, hfits _ hnext⟩

/-- A claim that leaves the port and the mode keeps the law as its walk moves on. -/
theorem State.PortLaw.claimed {s : State} (h : s.PortLaw) {c : LongCmd} {w : RangeWalk}
    (hw : s.walkOf c = some w) {x : State × Bool} (hp : x.1.port = s.port)
    (hc : x.1.control = s.control) : (x.1.advanceWalk w x.2).PortLaw := by
  have hwalk : s.port.rangeWalk = some w := by
    unfold State.walkOf at hw
    split at hw
    · exact hw
    · cases hw
  exact (h.congr (State.portView_eq hp hc)).advanceWalk (by rw [hp, hwalk]) x.2

/-! ### Every command, and every step -/

/-- Every command keeps the port law. -/
theorem exec_keeps_port {s t : State} (i : Instr) (h : s.PortLaw) (he : exec i s = .next t) :
    t.PortLaw := by
  cases i with
  | request r =>
    refine next_inj ?_ he
    split
    · split
      · exact h.congr rfl
      · exact h.congr (s.receive_portView r)
    · exact h
  | hostLinkUp | memoryLinkUp | credit _ | unknownCommand _ =>
    refine next_inj ?_ he
    split
    · exact h.congr rfl
    · exact h.congr rfl
  | response w st data =>
    refine next_inj ?_ he
    split
    · split
      · exact h.takeResponse _ st data
      · exact h.congr rfl
    · exact h
  | enterDone => exact next_inj (h.congr (s.takeDone_portView _ State.entered_portView)) he
  | exitDone => exact next_inj (h.congr (s.takeDone_portView _ State.exited_portView)) he
  | responseTimeout tag | fillWriteTimeout tag =>
    refine next_inj ?_ he
    split
    · split
      · exact (h.congr (State.portView_eq (by simp) (by simp))).settleTag
      · exact h
    all_goals exact h
  | entryTimeout | exitTimeout =>
    refine next_inj ?_ he
    split
    · exact h.congr s.reachDirective_portView
    · exact h
  | halt =>
    refine next_inj ?_ he
    split
    · exact h.congr ((State.halted_portView _).trans s.reachDirective_portView)
    · exact h
  | slpReqRise =>
    refine next_inj ?_ he
    split
    · exact h
    · exact h.congr (State.startDrain_portView _)
  | slpReqFall =>
    refine next_inj ?_ he
    split
    · exact h.congr s.slpFell_portView
    · exact h
  | drainCompletion => exact next_inj (h.congr s.settleDrain_portView) he
  | hardReset => exact next_inj s.portLaw_hardReset he
  | hardResetEnd =>
    refine next_inj ?_ he
    split
    · exact h.congr (State.startDrain_portView _)
    · exact h
  | headClassification =>
    refine next_inj ?_ he
    split
    · exact h
    · split
      · exact h.congr (s.settleHead_portView _ _)
      · exact h
  | fillStart =>
    refine next_inj ?_ he
    split
    · split
      · split
        · split
          · exact h.congr (s.startFill_portView _ _)
          · split
            · exact h.congr (s.startFill_portView _ _)
            · exact h.congr rfl
        · exact h.congr rfl
      · exact h
    all_goals exact h
  | queueAtHead =>
    refine next_inj ?_ he
    split
    · split
      · refine h.congr ?_
        unfold State.takeQueueAtHead
        split <;> rfl
      · exact h
    all_goals exact h
  | promotion =>
    refine next_inj ?_ he
    split
    · split
      · split <;> exact h.congr rfl
      · exact h
    all_goals exact h
  | headGrant =>
    refine next_inj ?_ he
    split
    · split
      · exact h.congr (s.grantHead_portView _ _)
      · exact h
    all_goals exact h
  | channelGrant c =>
    refine next_inj ?_ he
    split
    · split
      · exact h.congr (s.grantChan_portView c _)
      · exact h
    · exact h
  | take c =>
    rcases execTake_cases he with rfl | ⟨k, rest, -, rfl⟩
    · exact h
    · exact h.congr (s.startFill_portView k c)
  | cursorStep c =>
    refine next_inj ?_ he
    split
    · split
      · refine h.congr (State.portView_eq ?_ ?_) <;> simp [State.stepCursor]
      · exact h
    · exact h
  | status | result | get _ | set _ _ | readTile _ | readChannel _ | takeNotice =>
    refine next_inj (h.takeCommand _ ?_ _) he
    exact h.congr rfl
  | frameAbandon | frameEnd => exact next_inj (h.congr s.raiseSelect_portView) he
  | engage option => exact next_inj (h.takeLong .engage _ (fun _ => h.acceptEngage option) nofun) he
  | engageWalkClaim => exact execEngageWalkClaim_keeps_port h he
  | disengage =>
    exact next_inj (h.takeLong .disengage _ (fun _ => s.portLaw_acceptDisengage) nofun) he
  | disengageEnd => exact next_inj h.settleDisengage he
  | restart =>
    exact next_inj (h.takeLong .restart _ (fun _ => s.portLaw_acceptRestart) fun _ hs =>
      judgeRestart_of_halted hs) he
  | restartClear => exact next_inj h.settleRestart he
  | discard _ _ | prepare _ _ =>
    exact next_inj (h.takeRange (by simp) _ judgeRange_eq_none) he
  | adopt _ _ => exact next_inj (h.takeRange (by simp) _ judgeAdopt_eq_none) he
  | discardClaim =>
    refine next_inj ?_ he
    split
    · exact h
    · next w hw =>
      exact h.claimed hw (discardTile_tells s w.next).1 (s.discardTile_control w.next)
  | prepareClaim =>
    refine next_inj ?_ he
    split
    · exact h
    · next w hw =>
      split
      · exact h
      · exact h.claimed hw (prepareTile_tells s w.next).1 (s.prepareTile_control w.next)
  | adoptClaim =>
    refine next_inj ?_ he
    split
    · exact h
    · next w hw =>
      split
      · exact h
      · exact h.claimed hw (adoptTile_tells s w.next).1 (s.adoptTile_control w.next)
  | frameBegin =>
    refine next_inj ?_ he
    split
    · exact h
    · dsimp only
      split
      · exact h.congr rfl
      · exact h.congr rfl

/-- Settles O10: a step is a command, which keeps the law, or a tick of the clock. -/
theorem stepKeepsPortLaw : Obligations.StepKeepsPortLaw := by
  intro s t h hstep
  rcases step_cases hstep with ⟨c, rest, -, he⟩ | ⟨c, -, -, he⟩ | ⟨-, -, rfl⟩
  · exact exec_keeps_port (s := { s with pending := rest }) c (h.congr rfl) he
  · exact exec_keeps_port c h he
  · exact h.congr rfl

end Sys2Proof.Machine
end

section
/-! What a command can do to the links, the Tag Pool, the Notice Queue, the settings and the clock
(spec/06, spec/07, spec/08, spec/12 R213): the elementary effects that a command is made of. -/

namespace Sys2Proof.Machine

/-! ### What the laws read -/

/-- What the laws of the links, the notices and the clock read of a state. -/
def State.linkView (s : State) :
    List HostRequest × HostTagSet × Vector TagEntry 48 × Micros × Option Micros × MemLink ×
      Settings × NoticeQueue :=
  (s.requests, s.host.outstanding, s.tags, s.now, s.ret.deadline, s.link, s.settings, s.notices)

/-- The entry is IN_USE for host tag h (spec/06 R129). -/
def TagEntry.HeldFor (x : TagEntry) (h : HostTag) : Prop :=
  ∃ k a l d, x = .inUse (.host k a h l) d

/-- The parts of equal views are equal. -/
theorem State.linkView_parts {s t : State} (h : t.linkView = s.linkView) :
    t.requests = s.requests ∧ t.host.outstanding = s.host.outstanding ∧ t.tags = s.tags ∧
      t.now = s.now ∧ t.ret.deadline = s.ret.deadline ∧ t.link = s.link ∧
      t.settings = s.settings ∧ t.notices = s.notices := by
  simpa only [State.linkView, Prod.mk.injEq] using h

/-! ### Elementary effects -/

/-- The states that elementary effects lead to from s, the issue of a REQUEST not among them. The
premises of each effect are about the state it is taken in. -/
inductive State.Effects (s : State) : State → Prop
  | start : Effects s s
  /-- Nothing is written that the laws read. -/
  | unread {u t : State} (h : Effects s u) (ht : t.linkView = u.linkView) : Effects s t
  /-- A notice is posted (spec/08 R164). -/
  | posted {u : State} (h : Effects s u) (n : Notice) : Effects s (u.post n)
  /-- The oldest notice is taken (spec/08 R168, R169). -/
  | noticeTaken {u : State} (h : Effects s u) : Effects s { u with notices := u.notices.taken }
  /-- The Notice Queue is emptied (spec/10 R206). -/
  | noticesCleared {u : State} (h : Effects s u) :
      Effects s { u with notices := { u.notices with records := [], lost := 0, attnLow := false } }
  /-- A directive is sent (spec/06 R144). -/
  | directed {u : State} (h : Effects s u) {m : MemMsg} (hm : m.isRequest = false) :
      Effects s (u.direct m)
  /-- The memory link comes up, and carries the directives held (spec/06 R146). -/
  | memoryLinkUp {u : State} (h : Effects s u) :
      Effects s { u with link := { u.link with
        up := true, sent := u.link.sent ++ u.link.held, held := [] } }
  /-- Link credits arrive (spec/06 R128). -/
  | credited {u : State} (h : Effects s u) (hup : u.link.up = true) (n : Nat) :
      Effects s { u with link := { u.link with
        credits := min Config.linkCreditBound (u.link.credits + n) } }
  /-- The arbiter's counts are cleared (spec/10 R206). -/
  | arbiterCleared {u : State} (h : Effects s u) :
      Effects s { u with link := { u.link with fillPass := 0, lastGranted := .ch1 } }
  /-- A SET changes the settings within their ranges (spec/09 R190, R193). -/
  | configured {u : State} (h : Effects s u) {g : Settings}
      (hg : u.settings.InRange → g.InRange) : Effects s { u with settings := g }
  /-- A deadline passes that no running deadline lies before (spec/12 R213). -/
  | reached {u : State} (h : Effects s u) {d : Micros} (hd : u.NoDeadlineBefore d) :
      Effects s (u.reach d)
  /-- The directive deadline is cleared, or set for a directive sent now (spec/04 R90, R97). -/
  | directiveTimed {u : State} (h : Effects s u) {r : Retention}
      (hr : r.deadline = none ∨ r.deadline = some u.directiveDeadline) :
      Effects s { u with ret := r }
  /-- A request is admitted to the Request Queue (spec/02 R23, spec/07 R152, R155). -/
  | admitted {u : State} (h : Effects s u) {r : HostRequest}
      (hr : hasTag u.host.outstanding r.tag = false) :
      Effects s { u with
        requests := u.requests ++ [r],
        host := { u.host with outstanding := addTag u.host.outstanding r.tag } }
  /-- The head is answered (spec/02 R43, spec/07 R155). -/
  | answered {u : State} (h : Effects s u) {r : HostRequest} {rest : List HostRequest}
      (hr : u.requests = r :: rest) :
      Effects s { u with
        requests := rest,
        host := { u.host with outstanding := dropTag u.host.outstanding r.tag } }
  /-- Every queued request is answered (spec/02 R25). -/
  | flushed {u : State} (h : Effects s u) :
      Effects s { u with
        requests := [],
        host := { u.host with
          outstanding := u.requests.foldl (fun o r => dropTag o r.tag) u.host.outstanding } }
  /-- A tag stops being IN_USE for a host request, which is answered (spec/06 R137, R139). -/
  | settled {u : State} (h : Effects s u) {t : Tag} {k : Kind} {a : Addr} {ht : HostTag}
      {l : Option SkipLink} {d : Micros} {x : TagEntry}
      (htag : u.tags[t] = .inUse (.host k a ht l) d) (hx : x.isInUse = false) :
      Effects s { u with
        tags := u.tags.set t x,
        host := { u.host with outstanding := dropTag u.host.outstanding ht } }
  /-- A tag that no host request holds becomes FREE or QUARANTINED (spec/06 R138, R140, R141). -/
  | retagged {u : State} (h : Effects s u) {t : Tag} {x : TagEntry}
      (htag : ∀ ht, ¬ (u.tags[t]).HeldFor ht) (hx : x.isInUse = false) :
      Effects s { u with tags := u.tags.set t x }
  /-- RST_N goes low (spec/12 R213). -/
  | hardReset {u : State} (h : Effects s u) : Effects s u.hardReset

/-- A command that writes nothing the laws read. -/
theorem State.Effects.view {s t : State} (ht : t.linkView = s.linkView) : s.Effects t :=
  .unread .start ht

/-! ### What a command can do -/

/-- What a command does to what the laws read: elementary effects, or the issue of one REQUEST under
the lowest FREE tag at a used grant to the head or to a channel (spec/06 R130, R132). -/
inductive State.LinkMove (s : State) : Instr → State → Prop
  | effects {i : Instr} {t : State} (h : s.Effects t) : LinkMove s i t
  | headIssued {r : HostRequest} {rest : List HostRequest} {tag : Tag} {k : Kind} {a : Addr}
      {l : Option SkipLink} {b : ReqBody} {t : State} (hr : s.requests = r :: rest)
      (hg : s.grant = some .head) (hf : s.lowestFree = some tag)
      (ht : t.linkView =
        ({ s.passHead.issue tag (.host k a r.tag l) a b with requests := rest } : State).linkView) :
      LinkMove s .headGrant t
  | chanIssued {c : Chan} {tag : Tag} {a : Addr} {o : Nat} {b : ReqBody} {t : State}
      (hg : s.grant = some (.chan c)) (hf : s.lowestFree = some tag)
      (ht : t.linkView = ((s.passChan c).issue tag (.fill a c o) a b).linkView) :
      LinkMove s (.channelGrant c) t

/-! ### Operations made of elementary effects -/

variable {s u : State}

theorem State.Effects.setTile (h : s.Effects u) (t : Tile) (x : TileState) :
    s.Effects (u.setTile t x) := h.unread rfl

theorem State.setChan_linkView (s : State) (c : Chan) (r : Channel) :
    (s.setChan c r).linkView = s.linkView := by cases c <;> rfl

theorem State.Effects.setChan (h : s.Effects u) (c : Chan) (r : Channel) :
    s.Effects (u.setChan c r) := h.unread (u.setChan_linkView c r)

theorem State.Effects.tryComplete (h : s.Effects u) (c : Chan) : s.Effects (u.tryComplete c) := by
  rcases tryComplete_cases u c with ⟨t, -, -, -, -, he⟩ | he
  · rw [he]
    exact ((h.setTile t .live).setChan c _).posted _
  · rwa [he]

theorem State.Effects.failTile (h : s.Effects u) (c : Chan) (t : Tile) (o : Nat) :
    s.Effects (u.failTile c t o) := by
  unfold State.failTile
  split
  · exact ((h.setTile t .failed).setChan c _).posted _
  · exact h

/-- The outcome of a fill write reaches its channel, and its tile where the channel completes or
fails it (spec/06 R138). -/
theorem State.Effects.handFill (h : s.Effects u) (c : Chan) (o : Nat) (t : Tag) (ok : Bool) :
    s.Effects (u.handFill c o t ok) := by
  unfold State.handFill
  split
  · exact h
  · split
    · exact h.setChan c _
    · split
      · exact h.setChan c _
      · exact h.setChan c _
      · split
        · exact (h.setChan c _).tryComplete c
        · split
          · exact (h.setChan c _).posted _
          · exact h.failTile c _ o

theorem State.Effects.handSkip (h : s.Effects u) (l : Option SkipLink) (t : Tag) (ok : Bool) :
    s.Effects (u.handSkip l t ok) := h.unread (by simp [State.linkView])

theorem State.Effects.sendExit (h : s.Effects u) (n : Nat) : s.Effects (u.sendExit n) :=
  .directiveTimed (h.directed (m := .retainExit) rfl) (.inr rfl)

/-- The start of a drain leaves the directive deadline as it is (spec/04 R84). -/
theorem State.Effects.startDrain (h : s.Effects u) : s.Effects u.startDrain := by
  unfold State.startDrain
  split
  · exact h.unread rfl
  · exact h

theorem State.Effects.completeDrain (h : s.Effects u) : s.Effects u.completeDrain :=
  ((h.directed (m := .retainEnter u.censusLanes u.censusBands) rfl).directiveTimed
    (r := u.completeDrain.ret) (.inr u.completeDrain_deadline)).unread
      (by simp [State.linkView, State.completeDrain])

theorem State.Effects.settleDrain (h : s.Effects u) : s.Effects u.settleDrain := by
  rcases settleDrain_cases u with ⟨-, -, -, he⟩ | ⟨-, he⟩
  · rw [he]
    exact h.completeDrain
  · rwa [he]

theorem State.Effects.settleDisengage (h : s.Effects u) : s.Effects u.settleDisengage := by
  unfold State.settleDisengage
  split
  · exact State.Effects.settleDrain (h.unread rfl)
  · exact h

theorem State.Effects.clear (h : s.Effects u) : s.Effects u.clear := by
  refine State.Effects.startDrain ?_
  exact (h.noticesCleared.arbiterCleared.directiveTimed (r := Retention.reset)
    (.inl rfl)).unread rfl

theorem State.Effects.settleRestart (h : s.Effects u) : s.Effects u.settleRestart := by
  rcases settleRestart_cases u with ⟨-, he⟩ | he
  · rw [he]
    exact h.clear
  · rwa [he]

theorem State.Effects.settleTag (h : s.Effects u) : s.Effects u.settleTag := by
  unfold State.settleTag
  split
  · exact h.settleRestart
  · exact h.settleDisengage
  · exact h.settleDrain
  · exact h.settleDrain
  · exact h

theorem State.Effects.flush (h : s.Effects u) (st : HostStatus) : s.Effects (u.flush st) := by
  refine h.flushed.unread ?_
  simp [State.flush, respondAll_eq, State.linkView]

/-- A command that is taken from its frame has its event's effects, or none (spec/09 R176). -/
theorem State.Effects.takeCommand (h : s.Effects u) (n : Nat) (reply : List Byte) :
    s.Effects (s.takeCommand n u reply) := by
  unfold State.takeCommand
  split
  · exact h.unread rfl
  · exact .start

/-- A long command has the effects of its acceptance, or none (spec/09 R175, R185). -/
theorem State.Effects.takeLong (h : s.Effects u) (c : LongCmd) (n : Nat) (why : Option Reason) :
    s.Effects (s.takeLong c n why u) := by
  unfold State.takeLong
  split
  · split
    · exact .view rfl
    · refine State.Effects.takeCommand ?_ n _
      split
      · exact .view rfl
      · exact h
  · exact .start

end Sys2Proof.Machine
end

section
/-! What each command can do to the links, the Tag Pool, the Notice Queue, the settings and the
clock: one inversion lemma, from which the host-tag law (O4), the notice, link and clock laws (O5)
and the rule of the REQUESTs (O14) follow. -/

namespace Sys2Proof.Machine

variable {s u : State}

/-! ### The host link and the head -/

/-- An admitted request joins the queue, and may start the exit, or it is refused at once
(spec/02 R23, spec/04 R96). -/
theorem State.Effects.receive (h : s.Effects u) (r : HostRequest) : s.Effects (u.receive r) := by
  unfold State.receive
  dsimp only
  split
  · exact (h.posted (requestNotice .tagClash r)).unread (by simp [State.linkView])
  · next hclash =>
    rw [Bool.not_eq_true] at hclash
    have hqueued := h.admitted hclash
    unfold State.handArrival
    split
    · exact hqueued.unread rfl
    · exact hqueued.unread rfl
    · exact hqueued.unread rfl
    · split <;> exact hqueued.unread rfl
    · split
      · refine State.Effects.sendExit ?_ 1
        exact hqueued.unread rfl
      · refine (h.posted (requestNotice .asleepRefused r)).unread ?_
        simp [State.linkView, State.refuseArrival, dropTag_addTag _ _ hclash]
    · refine h.unread ?_
      simp [State.linkView, State.refuseArrival, dropTag_addTag _ _ hclash]

/-- The head is answered, or takes a class or a claim (spec/02 R28). -/
theorem State.Effects.settleHead (h : s.Effects u) {r : HostRequest} {rest : List HostRequest}
    (hr : u.requests = r :: rest) (d : Decision) : s.Effects (u.settleHead r d) := by
  cases d with
  | answer st data n =>
    have hpost : s.Effects (u.postSome n) := by
      cases n with
      | none => exact h
      | some n => exact h.posted n
    have hreq : (u.postSome n).requests = r :: rest := by cases n <;> exact hr
    refine (hpost.answered hreq).unread ?_
    simp [State.settleHead, State.answerHead, State.linkView, hreq]
  | forward how => exact h.unread rfl
  | wait => exact h.unread rfl
  | claim c => cases c <;> exact h.unread rfl

theorem State.issueEffect_linkView (s : State) (t : Tag) (how : IssueForm) :
    (s.issueEffect t how).linkView = s.linkView := by
  cases how with
  | plain | writeClaim _ => rfl
  | reissue c o | insert c o => cases c <;> rfl

@[simp] theorem State.passHead_requests (s : State) : s.passHead.requests = s.requests := by
  unfold State.passHead
  split <;> rfl

/-- Of the view, the head's departure with its credit writes the Request Queue alone
(spec/02 R24). -/
theorem State.popHead_linkView {v w : State} (h : v.linkView = w.linkView) :
    (v.popHead.returnCredits 1).linkView =
      ({ w with requests := w.requests.tail } : State).linkView := by
  have hparts := State.linkView_parts h
  simp [State.linkView, hparts]

/-- A granted head is issued, or answered, or classified again (spec/02 R29). -/
theorem linkMove_grantHead {r : HostRequest} {rest : List HostRequest} {tag : Tag}
    (hr : s.requests = r :: rest) (hg : s.grant = some .head) (hf : s.lowestFree = some tag) :
    s.LinkMove .headGrant (s.grantHead r tag) := by
  by_cases hfwd : ∃ how, classify s r = .forward how
  · obtain ⟨how, hc⟩ := hfwd
    simp only [State.grantHead, hc]
    refine .headIssued (k := r.body.kind) (a := burstAddr r.addr) (l := how.link)
      (b := how.body s.settings r.body) hr hg hf
      ((State.popHead_linkView (State.issueEffect_linkView _ tag how)).trans ?_)
    rw [State.issue_requests, State.passHead_requests, hr, List.tail_cons]
  · rw [grantHead_eq_settleHead tag fun how hc => hfwd ⟨how, hc⟩]
    exact .effects (State.Effects.start.settleHead hr _)

/-- A granted channel issues a retry or its cursor burst, or leaves the grant unused
(spec/03 R58). -/
theorem linkMove_grantChan {c : Chan} {tag : Tag} (hg : s.grant = some (.chan c))
    (hf : s.lowestFree = some tag) : s.LinkMove (.channelGrant c) (s.grantChan c tag) := by
  have hself : s.LinkMove (.channelGrant c) (s.setChan c (s.chan c)) :=
    .effects (State.Effects.start.setChan c _)
  unfold State.grantChan
  split
  · split
    · exact hself
    · split
      · exact .chanIssued hg hf (State.setChan_linkView _ c _)
      · split
        · exact .chanIssued hg hf (State.setChan_linkView _ c _)
        · exact hself
  · exact hself
  · exact hself

/-! ### The memory link -/

/-- The entry of a fill write is held for no host tag (spec/06 R129). -/
theorem TagEntry.not_heldFor_of_fill {x : TagEntry} {a : Addr} {c : Chan} {o : Nat} {d : Micros}
    (h : x = .inUse (.fill a c o) d) (ht : HostTag) : ¬ x.HeldFor ht := by
  rintro ⟨k, b, l, e, rfl⟩
  cases h

theorem TagEntry.not_heldFor_of_not_inUse {x : TagEntry} (h : x.isInUse = false) (ht : HostTag) :
    ¬ x.HeldFor ht := by
  rintro ⟨k, a, l, d, rfl⟩
  cases h

/-- A response frees the tag of its entry, and answers the host request that held it, or is handed
to its channel, or is late or stray (spec/06 R136 to R138, R141). -/
theorem State.Effects.takeResponse (h : s.Effects u) (t : Tag) (st : MemStatus) (data : Burst) :
    s.Effects (u.takeResponse t st data) := by
  unfold State.takeResponse
  split
  · exact h.posted _
  · next htag =>
    exact .posted (h.retagged (TagEntry.not_heldFor_of_not_inUse (by rw [htag]; rfl)) rfl) _
  · next htag =>
    refine .settleTag (.handSkip ?_ _ t _)
    exact (h.settled htag (x := .free) rfl).unread rfl
  · next htag =>
    exact .settleTag (.handFill (h.retagged (TagEntry.not_heldFor_of_fill htag) rfl) _ _ t _)

/-- A response deadline passes once no running deadline lies before it, and answers the host request
(spec/06 R139, spec/12 R213). -/
theorem effects_execResponseTimeout {t : State} (tag : Tag)
    (he : execResponseTimeout tag s = .next t) : s.Effects t := by
  refine next_inj ?_ he
  split
  · next k a ht l d htag =>
    split
    · next hd =>
      have hreached : s.Effects (s.reach d) := .reached .start ((noneBefore_iff s d).1 hd)
      refine .settleTag (.handSkip ?_ l tag false)
      exact ((hreached.settled (x := .quarantined (.host k a ht l)) htag rfl).posted
        (originNotice .responseTimeout (.host k a ht l))).unread rfl
    · exact .start
  all_goals exact .start

/-- The deadline of a fill write passes once no running deadline lies before it, and its channel
treats it as an ERROR (spec/06 R140, spec/12 R213). -/
theorem effects_execFillWriteTimeout {t : State} (tag : Tag)
    (he : execFillWriteTimeout tag s = .next t) : s.Effects t := by
  refine next_inj ?_ he
  split
  · next a c o d htag =>
    split
    · next hd =>
      have hreached : s.Effects (s.reach d) := .reached .start ((noneBefore_iff s d).1 hd)
      exact .settleTag (.handFill (.posted (hreached.retagged (TagEntry.not_heldFor_of_fill htag)
        (x := .quarantined (.fill a c o)) rfl) _) c o tag false)
    · exact .start
  all_goals exact .start

/-! ### The Retention Controller -/

/-- A directive deadline that is the first to pass brings the clock to it (spec/12 R213). -/
theorem State.Effects.reachDirective (h : s.passesFirst s.ret.deadline = true) :
    s.Effects s.reachDirective := by
  unfold State.reachDirective
  split
  · exact .start
  · next d hd =>
    rw [hd] at h
    exact .reached .start ((noneBefore_iff s d).1 h)

theorem State.Effects.entered (h : s.Effects u) : s.Effects u.entered := by
  have hposted := (h.directiveTimed (r := { u.ret with deadline := none, pendingWake := false })
    (.inl rfl)).posted { kind := .retainEntered, kept := some (u.ret.keptLanes, u.ret.keptBands) }
  unfold State.entered
  dsimp only
  split
  · exact hposted.unread rfl
  · refine State.Effects.sendExit ?_ 1
    exact hposted.unread rfl

theorem State.Effects.exited (h : s.Effects u) : s.Effects u.exited := by
  refine State.Effects.startDrain ?_
  exact ((h.directiveTimed (.inl rfl)).posted _).unread rfl

/-- A done message finds a due drain completed, and is matched or a stray (spec/04 R86, R101). -/
theorem effects_takeDone (s : State) (wanted : RetState) {matched : State → State}
    (hm : ∀ u, s.Effects u → s.Effects (matched u)) : s.Effects (s.takeDone wanted matched) := by
  unfold State.takeDone
  split
  · dsimp only
    split
    · exact hm _ (.settleDrain .start)
    · exact .posted (.settleDrain .start) _
  · exact .start

theorem State.Effects.halted (h : s.Effects u) : s.Effects u.halted := by
  refine State.Effects.flush ?_ .refused
  exact ((h.posted { kind := .exitTimeout }).posted { kind := .halted }).directiveTimed (.inl rfl)

theorem State.Effects.slpFell (h : s.Effects u) : s.Effects u.slpFell := by
  unfold State.slpFell
  dsimp only
  split
  · exact h.unread rfl
  · refine State.Effects.sendExit ?_ 1
    exact h.unread rfl
  all_goals exact h.unread rfl

/-! ### The management port and the long commands -/

/-- A setting that is put takes a value in its range (spec/09 R190). -/
theorem Settings.InRange.put {g g' : Settings} (h : g.InRange) {id : SettingId} {v : BitVec 64}
    (hg : g.put id v = some g') : g'.InRange := by
  unfold Settings.InRange at *
  cases id with
  | fillWord =>
    cases hg
    exact h
  | capacity | granule | voidPolicy | wakeOnAccess | floorLanes | floorBands | noticeMask =>
    simp only [Settings.put] at hg
    split at hg <;> cases hg <;> exact h
  | fillShare | respTimeout | directiveTimeout =>
    simp only [Settings.put] at hg
    split at hg
    · cases hg
      dsimp only
      omega
    · cases hg

/-- A SET leaves the settings in their ranges (spec/09 R193). -/
theorem Settings.InRange.trySet {s : State} (h : s.settings.InRange) (ident : Byte)
    (value : BitVec 64) : (s.trySet ident value).2.InRange := by
  unfold State.trySet
  split
  · exact h
  · split
    · exact h
    · split
      · exact h
      · next hg => exact h.put hg

theorem State.acceptEngage_linkView (s : State) (option : Byte) :
    (s.acceptEngage option).linkView = s.linkView := by
  unfold State.acceptEngage
  split <;> rfl

theorem State.disengaging_linkView (s : State) : s.disengaging.linkView = s.linkView := by
  simp only [State.disengaging, State.linkView]

theorem effects_acceptDisengage (s : State) : s.Effects s.acceptDisengage := by
  rw [acceptDisengage_eq]
  exact .settleDisengage (.view s.disengaging_linkView)

theorem effects_acceptRestart (s : State) : s.Effects s.acceptRestart := by
  refine .settleRestart (.unread (.flush ?_ .aborted) rfl)
  exact .view rfl

theorem State.startFill_linkView (s : State) (t : Tile) (c : Chan) :
    (s.startFill t c).linkView = s.linkView := by
  simp [State.linkView]

theorem State.discardTile_linkView (s : State) (t : Tile) :
    (s.discardTile t).1.linkView = s.linkView := by
  unfold State.discardTile
  split
  · rfl
  · rfl
  · exact State.setChan_linkView _ _ _
  all_goals rfl

theorem State.prepareTile_linkView (s : State) (t : Tile) :
    (s.prepareTile t).1.linkView = s.linkView := by
  unfold State.prepareTile
  split <;> rfl

theorem State.adoptTile_linkView (s : State) (t : Tile) :
    (s.adoptTile t).1.linkView = s.linkView := by
  unfold State.adoptTile
  split <;> rfl

/-! ### Every command, and every step -/

/-- Every command makes one of the moves. -/
theorem exec_linkMove {t : State} {i : Instr} (he : exec i s = .next t) : s.LinkMove i t := by
  have hself : s.Effects s := .start
  cases i with
  | request r =>
    refine next_inj (.effects ?_) he
    split
    · split
      · exact hself.posted _
      · exact hself.receive r
    · exact hself
  | hostLinkUp =>
    refine next_inj (.effects ?_) he
    split
    · exact hself
    · exact hself.unread (by simp [State.linkView])
  | memoryLinkUp =>
    refine next_inj (.effects ?_) he
    split
    · exact hself
    · exact hself.memoryLinkUp
  | response w st data =>
    refine next_inj (.effects ?_) he
    split
    · split
      · exact hself.takeResponse _ st data
      · exact hself.posted _
    · exact hself
  | credit n =>
    refine next_inj (.effects ?_) he
    split
    · next hup => exact hself.credited hup n.val
    · exact hself
  | enterDone => exact next_inj (.effects (effects_takeDone s _ fun _ h => h.entered)) he
  | exitDone => exact next_inj (.effects (effects_takeDone s _ fun _ h => h.exited)) he
  | responseTimeout tag => exact .effects (effects_execResponseTimeout tag he)
  | fillWriteTimeout tag => exact .effects (effects_execFillWriteTimeout tag he)
  | entryTimeout =>
    refine next_inj (.effects ?_) he
    split
    · next h =>
      refine .sendExit ?_ 1
      exact ((State.Effects.reachDirective h.2).posted { kind := .entryTimeout }).unread rfl
    · exact hself
  | exitTimeout =>
    refine next_inj (.effects ?_) he
    split
    · next h =>
      obtain ⟨-, -, hfirst⟩ := h
      exact ((State.Effects.reachDirective hfirst).posted _).sendExit 2
    · exact hself
  | halt =>
    refine next_inj (.effects ?_) he
    split
    · next h =>
      obtain ⟨-, -, hfirst⟩ := h
      exact (State.Effects.reachDirective hfirst).halted
    · exact hself
  | slpReqRise =>
    refine next_inj (.effects ?_) he
    split
    · exact hself
    · exact .startDrain (hself.unread rfl)
  | slpReqFall =>
    refine next_inj (.effects ?_) he
    split
    · exact hself.slpFell
    · exact hself
  | drainCompletion => exact next_inj (.effects hself.settleDrain) he
  | hardReset => exact next_inj (.effects hself.hardReset) he
  | hardResetEnd =>
    refine next_inj (.effects ?_) he
    split
    · exact .startDrain (hself.unread rfl)
    · exact hself
  | headClassification =>
    refine next_inj (.effects ?_) he
    split
    · exact hself
    · next hr =>
      split
      · exact hself.settleHead hr _
      · exact hself
  | fillStart =>
    refine next_inj (.effects (.view ?_)) he
    split
    · split
      · split
        · split
          · exact s.startFill_linkView _ _
          · split
            · exact s.startFill_linkView _ _
            · rfl
        · rfl
      · rfl
    all_goals rfl
  | queueAtHead =>
    refine next_inj (.effects (.view ?_)) he
    split
    · split
      · unfold State.takeQueueAtHead
        split <;> rfl
      · rfl
    all_goals rfl
  | promotion =>
    refine next_inj (.effects (.view ?_)) he
    split
    · split
      · split <;> rfl
      · rfl
    all_goals rfl
  | headGrant =>
    refine next_inj ?_ he
    split
    · next hr hf =>
      split
      · next h => exact linkMove_grantHead hr h.2 hf
      · exact .effects hself
    all_goals exact .effects hself
  | channelGrant c =>
    refine next_inj ?_ he
    split
    · next hf =>
      split
      · next hg => exact linkMove_grantChan hg hf
      · exact .effects hself
    · exact .effects hself
  | take c =>
    rcases execTake_cases he with rfl | ⟨k, rest, -, rfl⟩
    · exact .effects .start
    · exact .effects (.view (s.startFill_linkView k c))
  | cursorStep c =>
    refine next_inj (.effects ?_) he
    split
    · split
      · exact (hself.setChan c _).tryComplete c
      · exact hself
    · exact hself
  | status | result | get _ | readTile _ | readChannel _ =>
    exact next_inj (.effects (hself.takeCommand _ _)) he
  | set ident value =>
    exact next_inj (.effects
      (State.Effects.takeCommand (hself.configured fun h => h.trySet ident value) _ _)) he
  | takeNotice => exact next_inj (.effects (hself.noticeTaken.takeCommand _ _)) he
  | unknownCommand code =>
    refine next_inj (.effects (.view ?_)) he
    split <;> rfl
  | frameAbandon | frameEnd =>
    refine next_inj (.effects (.view ?_)) he
    unfold State.raiseSelect
    split <;> rfl
  | engage option =>
    exact next_inj (.effects (.takeLong (.view (s.acceptEngage_linkView option)) _ _ _)) he
  | engageWalkClaim =>
    refine next_inj (.effects ?_) he
    split
    · exact hself
    · split
      · split
        · exact .settleDrain (.view rfl)
        · exact .view rfl
      · exact hself
  | disengage => exact next_inj (.effects ((effects_acceptDisengage s).takeLong _ _ _)) he
  | disengageEnd => exact next_inj (.effects hself.settleDisengage) he
  | restart => exact next_inj (.effects ((effects_acceptRestart s).takeLong _ _ _)) he
  | restartClear => exact next_inj (.effects hself.settleRestart) he
  | discard _ _ | prepare _ _ | adopt _ _ =>
    refine next_inj (.effects (.takeLong (.view ?_) _ _ _)) he
    rfl
  | discardClaim =>
    refine next_inj (.effects (.view ?_)) he
    split
    · rfl
    · exact s.discardTile_linkView _
  | prepareClaim =>
    refine next_inj (.effects (.view ?_)) he
    split
    · rfl
    · split
      · rfl
      · exact s.prepareTile_linkView _
  | adoptClaim =>
    refine next_inj (.effects (.view ?_)) he
    split
    · rfl
    · split
      · rfl
      · exact s.adoptTile_linkView _
  | frameBegin =>
    refine next_inj (.effects (.view ?_)) he
    split
    · rfl
    · dsimp only
      split <;> rfl

/-- A step is a move from a state with the same view, or a tick with no event due. -/
theorem step_linkMove {t : State} (h : step s = .next t) :
    (∃ i u, u.linkView = s.linkView ∧ State.LinkMove u i t) ∨
      (s.dueCommand = none ∧ t = s.tick) := by
  rcases step_cases h with ⟨c, rest, -, he⟩ | ⟨c, -, -, he⟩ | ⟨-, hdue, rfl⟩
  · refine .inl ⟨c, _, ?_, exec_linkMove he⟩
    rfl
  · exact .inl ⟨c, s, rfl, exec_linkMove he⟩
  · exact .inr ⟨hdue, rfl⟩

end Sys2Proof.Machine
end

section
/-! Every step keeps the notice law, the link law and the clock law (O5): one rule for each
elementary effect that writes what a law reads. -/

namespace Sys2Proof.Machine

variable {s t : State}

/-! ### Notices -/

/-- The notice law of a Notice Queue (spec/08 R165, R166, R170). -/
def NoticeQueue.Law (q : NoticeQueue) : Prop :=
  q.records.length ≤ 32 ∧ q.lost ≤ 65535 ∧ (q.lost ≠ 0 → q.records ≠ []) ∧
    (q.attnLow = true ↔ q.records ≠ [])

theorem State.noticeLaw_iff (s : State) : s.NoticeLaw ↔ s.notices.Law := Iff.rfl

/-- An empty queue with nothing lost and ATTN_N high (spec/08 R172). -/
theorem NoticeQueue.law_of_empty {q : NoticeQueue} (hr : q.records = []) (hl : q.lost = 0)
    (ha : q.attnLow = false) : q.Law := by
  simp [NoticeQueue.Law, hr, hl, ha]

/-- A counted notice is stored while there is room, and lost behind 32 records
(spec/08 R165, R166). -/
theorem NoticeQueue.Law.count {q : NoticeQueue} (h : q.Law) (n : Notice) : (q.count n).Law := by
  obtain ⟨hlen, hlost, hstored, hattn⟩ := h
  unfold NoticeQueue.count Config.noticeBound Config.lostBound
  split
  · next hroom => exact ⟨by simpa using hroom, hlost, by simp, by simp⟩
  · next hfull =>
    have hne : q.records ≠ [] := by
      intro hnil
      simp [hnil] at hfull
    exact ⟨hlen, Nat.min_le_left _ _, fun _ => hne, hattn⟩

theorem NoticeQueue.Law.posted {q : NoticeQueue} (h : q.Law) (mask : KindSet) (n : Notice) :
    (q.posted mask n).Law := by
  unfold NoticeQueue.posted
  split
  · exact h.count n
  · exact h

/-- TAKE_NOTICE takes the oldest record and clears the lost count (spec/08 R168 to R170). -/
theorem NoticeQueue.Law.taken {q : NoticeQueue} (h : q.Law) : q.taken.Law := by
  obtain ⟨hlen, hlost, hstored, hattn⟩ := h
  unfold NoticeQueue.taken
  split
  · next hnil => exact ⟨hlen, by simp, by simp, hattn⟩
  · next r rest hr =>
    have hlow : q.attnLow = true := hattn.2 (by simp [hr])
    rw [hr, List.length_cons] at hlen
    exact ⟨by dsimp only; omega, by simp, by simp, by simp [hlow]⟩

/-- Elementary effects keep the notice law. -/
theorem State.Effects.keeps_notices (h : s.Effects t) (hs : s.NoticeLaw) : t.NoticeLaw := by
  induction h with
  | start => exact hs
  | unread _ ht ih =>
    obtain ⟨-, -, -, -, -, -, -, hn⟩ := State.linkView_parts ht
    rw [State.noticeLaw_iff] at *
    rwa [hn]
  | posted _ n ih => exact NoticeQueue.Law.posted ih _ n
  | noticeTaken _ ih => exact NoticeQueue.Law.taken ih
  | noticesCleared | hardReset => exact NoticeQueue.law_of_empty rfl rfl rfl
  | directed _ _ ih | memoryLinkUp _ ih | credited _ _ _ ih | arbiterCleared _ ih
    | configured _ _ ih | reached _ _ ih | directiveTimed _ _ ih | admitted _ _ ih
    | answered _ _ ih | flushed _ ih | settled _ _ _ ih
    | retagged _ _ _ ih => exact ih

/-! ### Settings and the arbiter -/

/-- The link law of the Memory Link (spec/06 R128, R134, R146). -/
def MemLink.Law (l : MemLink) : Prop :=
  l.credits ≤ 255 ∧ (l.up = false → l.credits = 0) ∧ l.fillPass ≤ 15 ∧
    ∀ m ∈ l.held, m.isRequest = false

theorem State.linkLaw_iff (s : State) : s.LinkLaw ↔ s.settings.InRange ∧ s.link.Law := Iff.rfl

/-- A directive is carried or held (spec/06 R144, R146). -/
theorem MemLink.Law.direct {l : MemLink} (h : l.Law) {m : MemMsg} (hm : m.isRequest = false) :
    (l.direct m).Law := by
  obtain ⟨hcred, hdown, hpass, hheld⟩ := h
  unfold MemLink.direct
  split
  · exact ⟨hcred, hdown, hpass, hheld⟩
  · refine ⟨hcred, hdown, hpass, fun x hx => ?_⟩
    rcases List.mem_append.1 hx with hx | hx
    · exact hheld x hx
    · rw [List.mem_singleton.1 hx]
      exact hm

/-- Elementary effects keep the link law. -/
theorem State.Effects.keeps_link (h : s.Effects t) (hs : s.LinkLaw) : t.LinkLaw := by
  induction h with
  | start => exact hs
  | unread _ ht ih =>
    obtain ⟨-, -, -, -, -, hl, hg, -⟩ := State.linkView_parts ht
    rw [State.linkLaw_iff] at *
    rwa [hl, hg]
  | directed _ hm ih => exact ⟨ih.1, MemLink.Law.direct ih.2 hm⟩
  | memoryLinkUp _ ih =>
    obtain ⟨hset, hcred, -, hpass, -⟩ := ih
    exact ⟨hset, hcred, nofun, hpass, by simp⟩
  | credited _ hup n ih =>
    obtain ⟨hset, -, -, hpass, hheld⟩ := ih
    exact ⟨hset, Nat.min_le_left _ _, by simp [hup], hpass, hheld⟩
  | arbiterCleared _ ih =>
    obtain ⟨hset, hcred, hdown, -, hheld⟩ := ih
    exact ⟨hset, hcred, hdown, Nat.zero_le _, hheld⟩
  | configured _ hg ih => exact ⟨hg ih.1, ih.2⟩
  | hardReset =>
    simp [State.LinkLaw, Settings.InRange, State.hardReset, State.reset, Settings.defaults,
      MemLink.reset]
  | posted _ _ ih | noticeTaken _ ih | noticesCleared _ ih | reached _ _ ih
    | directiveTimed _ _ ih | admitted _ _ ih | answered _ _ ih | flushed _ ih | settled _ _ _ ih
    | retagged _ _ _ ih => exact ih

/-- An issue spends a link credit (spec/06 R128). -/
theorem State.LinkLaw.issue (h : s.LinkLaw) (tag : Tag) (o : Origin) (a : Addr) (b : ReqBody) :
    (s.issue tag o a b).LinkLaw := by
  obtain ⟨hset, hcred, hdown, hpass, hheld⟩ := h
  refine ⟨hset, ?_, fun hup => ?_, hpass, hheld⟩
  · exact (Nat.sub_le _ _).trans hcred
  · show s.link.credits - 1 = 0
    rw [hdown hup]

/-- The head is granted beside a channel only while the fill-pass count is below FILL_SHARE, so the
count does not pass 15 (spec/06 R133, R134). -/
theorem fillPass_lt_of_head_granted (hg : s.grant = some .head) (hc : s.chanAsks = true) :
    s.link.fillPass < s.settings.fillShare := by
  obtain ⟨-, -, harb⟩ := grant_needs hg
  have hchoice : s.chanChoice ≠ none := by
    rw [State.chanAsks, Bool.or_eq_true] at hc
    rcases hc with h0 | h1
    · cases h1 : s.chan1.asks <;> simp [State.chanChoice, h0, h1]
    · cases h0 : s.chan0.asks <;> simp [State.chanChoice, h0, h1]
  unfold State.arbiterChoice at harb
  split at harb
  · cases harb
  · cases harb
  · next hnone => exact absurd hnone hchoice
  · split at harb
    · assumption
    · cases harb

theorem State.LinkLaw.passHead (h : s.LinkLaw) (hg : s.grant = some .head) :
    s.passHead.LinkLaw := by
  unfold State.passHead
  split
  · next hc =>
    have hlt := fillPass_lt_of_head_granted hg hc
    obtain ⟨⟨hmin, hmax, htimeouts⟩, hcred, hdown, -, hheld⟩ := h
    exact ⟨⟨hmin, hmax, htimeouts⟩, hcred, hdown, by dsimp only; omega, hheld⟩
  · exact h

theorem State.LinkLaw.passChan (h : s.LinkLaw) (c : Chan) : (s.passChan c).LinkLaw := by
  obtain ⟨hset, hcred, hdown, -, hheld⟩ := h
  exact ⟨hset, hcred, hdown, Nat.zero_le _, hheld⟩

/-! ### The clock -/

/-- An instant that deadlines do not lie before stays so where a tag takes an entry that is not
IN_USE or is due later. -/
theorem State.NoDeadlineBefore.retag {d : Micros} (h : s.NoDeadlineBefore d) (tag : Tag)
    {x : TagEntry} (hx : ∀ o e, x = .inUse o e → d ≤ e) :
    ({ s with tags := s.tags.set tag x } : State).NoDeadlineBefore d := by
  obtain ⟨htags, hret⟩ := h
  refine ⟨fun k o e hk => ?_, hret⟩
  rw [tags_set_get] at hk
  split at hk
  · exact hx o e hk
  · exact htags k o e hk

/-- Elementary effects keep the clock law. -/
theorem State.Effects.keeps_clock (h : s.Effects t) (hs : s.ClockLaw) : t.ClockLaw := by
  induction h with
  | start => exact hs
  | unread _ ht ih =>
    obtain ⟨-, -, htags, hnow, hdl, -⟩ := State.linkView_parts ht
    rwa [State.ClockLaw, State.NoDeadlineBefore, htags, hnow, hdl]
  | reached _ hd ih =>
    obtain ⟨htags, hret⟩ := ih
    exact ⟨fun k o e hk => max_le (htags k o e hk) (hd.1 k o e hk),
      fun e he => max_le (hret e he) (hd.2 e he)⟩
  | directiveTimed _ hr ih =>
    refine ⟨ih.1, fun e he => ?_⟩
    rcases hr with hr | hr
    · rw [hr] at he
      cases he
    · rw [hr] at he
      cases he
      exact Nat.le_add_right _ _
  | settled _ _ hx ih | retagged _ _ hx ih =>
    refine State.NoDeadlineBefore.retag ih _ ?_
    rintro o e rfl
    cases hx
  | hardReset =>
    simp [State.ClockLaw, State.NoDeadlineBefore, State.hardReset, State.reset, Retention.reset]
  | posted _ _ ih | noticeTaken _ ih | noticesCleared _ ih | directed _ _ ih | memoryLinkUp _ ih
    | credited _ _ _ ih | arbiterCleared _ ih | configured _ _ ih | admitted _ _ ih
    | answered _ _ ih | flushed _ ih => exact ih

/-- An issue sets its deadline from the clock on (spec/06 R130). -/
theorem State.ClockLaw.issue (h : s.ClockLaw) (tag : Tag) (o : Origin) (a : Addr) (b : ReqBody) :
    (s.issue tag o a b).ClockLaw := by
  refine State.NoDeadlineBefore.retag (s := s) h tag ?_
  rintro _ _ ⟨⟩
  exact Nat.le_add_right _ _

theorem State.ClockLaw.passHead (h : s.ClockLaw) : s.passHead.ClockLaw := by
  unfold State.passHead
  split <;> exact h

/-- While a directive deadline runs, its passing has an event (spec/04 R93, R99, R100). -/
theorem State.HandshakeLaw.timeout_isSome (h : s.HandshakeLaw) {d : Micros}
    (hd : s.ret.deadline = some d) : s.ret.timeout.isSome = true := by
  obtain ⟨-, -, -, -, hrun, hattempts, -⟩ := h
  rcases hrun.1 (by rw [hd]; rfl) with hs | hs
  · simp [Retention.timeout, hs]
  · rw [hs] at hattempts
    rcases hattempts with ha | ha <;> simp [Retention.timeout, hs, ha]

/-- Where no event is due, no deadline falls at the clock's instant, and the clock may count on
(spec/12 R213). -/
theorem State.ClockLaw.tick (h : s.ClockLaw) (hh : s.HandshakeLaw) (hdue : s.dueCommand = none) :
    s.tick.ClockLaw := by
  have hnone : s.dueTimeout = none := by
    rcases dueCommand_cases s with ⟨-, hc⟩ | ⟨-, hc⟩
    · rw [hc] at hdue
      cases hdue
    · rwa [hc] at hdue
  unfold State.dueTimeout at hnone
  split at hnone
  · next k hk =>
    obtain ⟨d, hd, -⟩ := (fallsNow_iff s _).1 (fallsNow_of_dueTag hk)
    obtain ⟨o, ho⟩ := TagEntry.deadline_eq_some.1 hd
    rw [ho] at hnone
    cases o <;> cases hnone
  · next hk =>
    refine ⟨fun k o e htag => ?_, fun e he => ?_⟩
    · refine lt_of_le_of_ne (h.1 k o e htag) ?_
      rintro rfl
      have hfalls := (fallsNow_tag_iff h k).2 ⟨o, htag⟩
      rw [fallsNow_of_dueTag_none hk k] at hfalls
      cases hfalls
    · have hrun : s.ret.deadline = some e := he
      refine lt_of_le_of_ne (h.2 e hrun) ?_
      rintro rfl
      rw [if_pos ((fallsNow_iff s _).2 ⟨_, hrun, le_rfl, h⟩)] at hnone
      have hsome := hh.timeout_isSome hrun
      rw [hnone] at hsome
      cases hsome

/-! ### Every move, and every step -/

theorem State.LinkMove.keeps_notices {i : Instr} (m : s.LinkMove i t) (h : s.NoticeLaw) :
    t.NoticeLaw := by
  cases m with
  | effects he => exact he.keeps_notices h
  | headIssued _ _ _ ht =>
    refine State.Effects.keeps_notices (.view ht) ?_
    unfold State.passHead
    split <;> exact h
  | chanIssued _ _ ht => exact State.Effects.keeps_notices (.view ht) h

theorem State.LinkMove.keeps_link {i : Instr} (m : s.LinkMove i t) (h : s.LinkLaw) :
    t.LinkLaw := by
  cases m with
  | effects he => exact he.keeps_link h
  | @headIssued r _ tag k a l b _ _ hg _ ht =>
    exact State.Effects.keeps_link (.view ht) ((h.passHead hg).issue tag (.host k a r.tag l) a b)
  | chanIssued _ _ ht => exact State.Effects.keeps_link (.view ht) ((h.passChan _).issue _ _ _ _)

theorem State.LinkMove.keeps_clock {i : Instr} (m : s.LinkMove i t) (h : s.ClockLaw) :
    t.ClockLaw := by
  cases m with
  | effects he => exact he.keeps_clock h
  | @headIssued r _ tag k a l b _ _ _ _ ht =>
    exact State.Effects.keeps_clock (.view ht) (h.passHead.issue tag (.host k a r.tag l) a b)
  | chanIssued _ _ ht =>
    exact State.Effects.keeps_clock (.view ht) (State.ClockLaw.issue (s := s.passChan _) h _ _ _ _)

/-- Settles O5: every move keeps the three laws, and the clock ticks where no deadline falls. -/
theorem stepKeepsNoticeAndLinkLaws : Obligations.StepKeepsNoticeAndLinkLaws := by
  intro s t hstep
  rcases step_linkMove hstep with ⟨i, u, hu, m⟩ | ⟨hdue, rfl⟩
  · have hview : s.Effects u := .view hu
    exact ⟨fun h => m.keeps_notices (hview.keeps_notices h),
      fun h => m.keeps_link (hview.keeps_link h), fun _ h => m.keeps_clock (hview.keeps_clock h)⟩
  · exact ⟨id, id, fun hh h => h.tick hh hdue⟩

end Sys2Proof.Machine
end

section
/-! Every step keeps the host-tag law (O4): who holds a host tag, and one rule for each elementary
effect that takes a tag or gives one back. -/

namespace Sys2Proof.Machine

variable {s t : State}

/-! ### Who holds a host tag -/

/-- A tag is IN_USE for a host tag as its entry has it. -/
theorem State.issuedFor_iff (s : State) (t : Tag) (h : HostTag) :
    s.issuedFor t h ↔ (s.tags[t]).HeldFor h := Iff.rfl

/-- An entry is IN_USE for one host tag. -/
theorem TagEntry.HeldFor.unique {x : TagEntry} {g h : HostTag} (hg : x.HeldFor g)
    (hh : x.HeldFor h) : g = h := by
  obtain ⟨k, a, l, d, rfl⟩ := hg
  obtain ⟨k', a', l', d', he⟩ := hh
  cases he
  rfl

/-- Answered one after the other, the requests' tags leave the outstanding set (spec/07 R155). -/
theorem hasTag_foldl_dropTag (rs : List HostRequest) (o : HostTagSet) (h : HostTag) :
    hasTag (rs.foldl (fun o r => dropTag o r.tag) o) h = true ↔
      hasTag o h = true ∧ h ∉ rs.map HostRequest.tag := by
  induction rs generalizing o with
  | nil => simp
  | cons r rs ih =>
    rw [List.foldl_cons, ih, hasTag_dropTag, List.map_cons, List.mem_cons, not_or, Bool.and_eq_true,
      Bool.not_eq_true', decide_eq_false_iff_not, and_assoc, eq_comm (a := h)]

/-! ### One rule for each effect -/

theorem State.HostTagLaw.congr (h : s.HostTagLaw) (hr : t.requests = s.requests)
    (ho : t.host.outstanding = s.host.outstanding) (hg : t.tags = s.tags) : t.HostTagLaw := by
  unfold State.HostTagLaw State.issuedFor at *
  rwa [hr, ho, hg]

/-- An admitted request brings a tag that nobody held (spec/07 R152, R154). -/
theorem State.HostTagLaw.enqueue (h : s.HostTagLaw) {r : HostRequest}
    (hr : hasTag s.host.outstanding r.tag = false) :
    ({ s with
        requests := s.requests ++ [r],
        host := { s.host with outstanding := addTag s.host.outstanding r.tag } } :
      State).HostTagLaw := by
  obtain ⟨hout, hnodup, hdisj, huniq⟩ := h
  have hfree : ¬ (r.tag ∈ s.requests.map HostRequest.tag ∨ ∃ t, s.issuedFor t r.tag) := by
    rw [← hout, hr]
    simp
  rw [not_or, not_exists] at hfree
  obtain ⟨hnew, hnone⟩ := hfree
  refine ⟨fun x => ?_, ?_, fun t x hx => ?_, huniq⟩
  · show hasTag (addTag s.host.outstanding r.tag) x = true ↔ _ ∨ ∃ t, s.issuedFor t x
    rw [hasTag_addTag, Bool.or_eq_true, hout, decide_eq_true_eq, List.map_append, List.mem_append]
    simp only [List.map_cons, List.map_nil, List.mem_singleton, eq_comm (a := x)]
    tauto
  · rw [List.map_append, List.map_singleton, List.nodup_append]
    exact ⟨hnodup, by simp, by
      rintro a ha b hb rfl
      exact hnew (List.mem_singleton.1 hb ▸ ha)⟩
  · rw [List.map_append, List.mem_append]
    rintro (hq | hq)
    · exact hdisj t x hx hq
    · rw [List.map_singleton, List.mem_singleton] at hq
      exact hnone t (hq ▸ hx)

/-- The head's tag is held by the head alone, and leaves with it. -/
theorem State.HostTagLaw.head (h : s.HostTagLaw) {r : HostRequest} {rest : List HostRequest}
    (hr : s.requests = r :: rest) :
    (rest.map HostRequest.tag).Nodup ∧ r.tag ∉ rest.map HostRequest.tag ∧
      (∀ t, ¬ s.issuedFor t r.tag) ∧
      ∀ h, hasTag s.host.outstanding h = true ↔
        h = r.tag ∨ h ∈ rest.map HostRequest.tag ∨ ∃ t, s.issuedFor t h := by
  obtain ⟨hout, hnodup, hdisj, -⟩ := h
  simp only [hr, List.map_cons, List.nodup_cons, List.mem_cons] at hout hnodup hdisj
  exact ⟨hnodup.2, hnodup.1, fun t ht => hdisj t _ ht (.inl rfl),
    by simpa only [or_assoc] using hout⟩

/-- The head is answered (spec/02 R43, spec/07 R155). -/
theorem State.HostTagLaw.answer (h : s.HostTagLaw) {r : HostRequest} {rest : List HostRequest}
    (hr : s.requests = r :: rest) :
    ({ s with
        requests := rest,
        host := { s.host with outstanding := dropTag s.host.outstanding r.tag } } :
      State).HostTagLaw := by
  obtain ⟨hnodup, hgone, hnone, hout⟩ := h.head hr
  obtain ⟨-, -, hdisj, huniq⟩ := h
  refine ⟨fun x => ?_, hnodup, fun t x hx hq => hdisj t x hx ?_, huniq⟩
  · show hasTag (dropTag s.host.outstanding r.tag) x = true ↔ _ ∨ ∃ t, s.issuedFor t x
    rw [hasTag_dropTag, Bool.and_eq_true, hout, Bool.not_eq_true', decide_eq_false_iff_not]
    constructor
    · rintro ⟨rfl | hx, hne⟩
      · exact absurd rfl hne
      · exact hx
    · intro hx
      refine ⟨.inr hx, ?_⟩
      rintro rfl
      rcases hx with hx | ⟨t, hx⟩
      · exact hgone hx
      · exact hnone t hx
  · rw [hr]
    exact List.mem_cons_of_mem _ hq

/-- Every queued request is answered (spec/02 R25). -/
theorem State.HostTagLaw.flush (h : s.HostTagLaw) :
    ({ s with
        requests := [],
        host := { s.host with
          outstanding := s.requests.foldl (fun o r => dropTag o r.tag) s.host.outstanding } } :
      State).HostTagLaw := by
  obtain ⟨hout, -, hdisj, huniq⟩ := h
  refine ⟨fun x => ?_, List.nodup_nil, fun _ _ _ => List.not_mem_nil, huniq⟩
  show hasTag (s.requests.foldl _ _) x = true ↔ x ∈ [] ∨ ∃ t, s.issuedFor t x
  rw [hasTag_foldl_dropTag, hout]
  constructor
  · rintro ⟨hq | hx, hne⟩
    · exact absurd hq hne
    · exact .inr hx
  · rintro (hq | ⟨t, hx⟩)
    · cases hq
    · exact ⟨.inr ⟨t, hx⟩, hdisj t x hx⟩

/-- Who holds a host tag after one entry was set. -/
theorem State.issuedFor_set {tag : Tag} {x : TagEntry} (ht : t.tags = s.tags.set tag x) (k : Tag)
    (h : HostTag) : t.issuedFor k h ↔ if k = tag then x.HeldFor h else s.issuedFor k h := by
  rw [State.issuedFor_iff, ht, tags_set_get]
  split
  · rfl
  · rfl

/-- A tag that no host request holds takes an entry that none holds. -/
theorem State.HostTagLaw.retag (h : s.HostTagLaw) {tag : Tag} {x : TagEntry}
    (hold : ∀ ht, ¬ (s.tags[tag]).HeldFor ht) (hx : ∀ ht, ¬ x.HeldFor ht) :
    ({ s with tags := s.tags.set tag x } : State).HostTagLaw := by
  have hsame (k : Tag) (ht : HostTag) :
      State.issuedFor { s with tags := s.tags.set tag x } k ht ↔ s.issuedFor k ht := by
    rw [State.issuedFor_set (s := s) rfl]
    split
    · next he =>
      subst he
      exact iff_of_false (hx ht) (hold ht)
    · rfl
  unfold State.HostTagLaw
  simp only [hsame]
  exact h

/-- A host request's downstream entry stops being IN_USE, and its tag outstanding
(spec/06 R137, R139). -/
theorem State.HostTagLaw.settle (h : s.HostTagLaw) {tag : Tag} {ht : HostTag} {x : TagEntry}
    (hold : s.issuedFor tag ht) (hx : x.isInUse = false) :
    ({ s with
        tags := s.tags.set tag x,
        host := { s.host with outstanding := dropTag s.host.outstanding ht } } :
      State).HostTagLaw := by
  obtain ⟨hout, hnodup, hdisj, huniq⟩ := h
  have hleft (k : Tag) (g : HostTag) : State.issuedFor { s with
        tags := s.tags.set tag x,
        host := { s.host with outstanding := dropTag s.host.outstanding ht } } k g ↔
      s.issuedFor k g ∧ ht ≠ g := by
    rw [State.issuedFor_set (s := s) rfl]
    split
    · next he =>
      subst he
      exact iff_of_false (TagEntry.not_heldFor_of_not_inUse hx g) fun hg =>
        hg.2 (TagEntry.HeldFor.unique hold hg.1)
    · next hne =>
      refine ⟨fun hk => ⟨hk, ?_⟩, fun hk => hk.1⟩
      rintro rfl
      exact hne (huniq k tag ht hk hold)
  refine ⟨fun g => ?_, hnodup, fun k g hk => hdisj k g ((hleft k g).1 hk).1,
    fun j k g hj hk => huniq j k g ((hleft j g).1 hj).1 ((hleft k g).1 hk).1⟩
  simp only [hleft, hasTag_dropTag, Bool.and_eq_true, Bool.not_eq_true', decide_eq_false_iff_not,
    hout, exists_and_right, or_and_right]
  refine or_congr_left (and_iff_left_of_imp ?_)
  rintro hq rfl
  exact hdisj tag ht hold hq

/-- The head is issued: its request leaves the queue for a FREE tag (spec/06 R130). -/
theorem State.HostTagLaw.issueHead (h : s.HostTagLaw) {r : HostRequest} {rest : List HostRequest}
    (hr : s.requests = r :: rest) {tag : Tag} (hfree : s.tags[tag] = .free) {x : TagEntry}
    (hx : x.HeldFor r.tag) :
    ({ s with requests := rest, tags := s.tags.set tag x } : State).HostTagLaw := by
  obtain ⟨hnodup, hgone, hnone, hout⟩ := h.head hr
  obtain ⟨-, -, hdisj, huniq⟩ := h
  have hheld (k : Tag) (g : HostTag) :
      State.issuedFor { s with requests := rest, tags := s.tags.set tag x } k g ↔
        (k = tag ∧ g = r.tag) ∨ s.issuedFor k g := by
    rw [State.issuedFor_set (s := s) rfl]
    split
    · next he =>
      subst he
      have hno : ¬ s.issuedFor k g := TagEntry.not_heldFor_of_not_inUse (by rw [hfree]; rfl) g
      rw [or_iff_left hno, and_iff_right rfl]
      exact ⟨fun hg => hg.unique hx, fun hg => hg ▸ hx⟩
    · next hne => simp [hne]
  refine ⟨fun g => ?_, hnodup, fun k g hk => ?_, fun j k g hj hk => ?_⟩
  · simp only [hheld, hout, exists_or, exists_and_right, exists_eq, true_and]
    tauto
  · rcases (hheld k g).1 hk with ⟨-, rfl⟩ | hk
    · exact hgone
    · intro hq
      refine hdisj k g hk ?_
      rw [hr]
      exact List.mem_cons_of_mem _ hq
  · rcases (hheld j g).1 hj with ⟨rfl, rfl⟩ | hj
    · rcases (hheld k _).1 hk with ⟨rfl, -⟩ | hk
      · rfl
      · exact absurd hk (hnone k)
    · rcases (hheld k g).1 hk with ⟨-, rfl⟩ | hk
      · exact absurd hj (hnone j)
      · exact huniq j k g hj hk

/-- Hard reset leaves no request and no tag held (spec/12 R213). -/
theorem hostTagLaw_hardReset (s : State) : s.hardReset.HostTagLaw :=
  reset_hostTagLaw.congr rfl rfl rfl

/-! ### Every move, and every step -/

/-- Elementary effects keep the host-tag law. -/
theorem State.Effects.keeps_hostTags (h : s.Effects t) (hs : s.HostTagLaw) : t.HostTagLaw := by
  induction h with
  | start => exact hs
  | unread _ ht ih =>
    obtain ⟨hr, ho, hg, -⟩ := State.linkView_parts ht
    exact ih.congr hr ho hg
  | admitted _ hr ih => exact ih.enqueue hr
  | answered _ hr ih => exact ih.answer hr
  | flushed _ ih => exact ih.flush
  | settled _ htag hx ih => exact ih.settle ⟨_, _, _, _, htag⟩ hx
  | retagged _ htag hx ih => exact ih.retag htag (TagEntry.not_heldFor_of_not_inUse hx)
  | hardReset => exact hostTagLaw_hardReset _
  | posted _ _ ih | noticeTaken _ ih | noticesCleared _ ih | directed _ _ ih | memoryLinkUp _ ih
    | credited _ _ _ ih | arbiterCleared _ ih | configured _ _ ih | reached _ _ ih
    | directiveTimed _ _ ih => exact ih

theorem State.LinkMove.keeps_hostTags {i : Instr} (m : s.LinkMove i t) (h : s.HostTagLaw) :
    t.HostTagLaw := by
  cases m with
  | effects he => exact he.keeps_hostTags h
  | @headIssued r _ _ k a l _ _ hr _ hf ht =>
    refine State.Effects.keeps_hostTags (.view ht) ?_
    have hissued := h.issueHead hr (free_of_lowestFree hf)
      (x := .inUse (.host k a r.tag l) (s.now + s.settings.respTimeout)) ⟨k, a, l, _, rfl⟩
    unfold State.passHead
    split <;> exact hissued
  | chanIssued _ hf ht =>
    have hfree := free_of_lowestFree hf
    refine State.Effects.keeps_hostTags (.view ht) ?_
    exact h.retag (TagEntry.not_heldFor_of_not_inUse (by rw [hfree]; rfl))
      (TagEntry.not_heldFor_of_fill rfl)

/-- Settles O4: every move keeps the host-tag law, and a tick leaves what it reads. -/
theorem stepKeepsHostTagLaw : Obligations.StepKeepsHostTagLaw := by
  intro s t h hstep
  rcases step_linkMove hstep with ⟨i, u, hu, m⟩ | ⟨-, rfl⟩
  · exact m.keeps_hostTags (State.Effects.keeps_hostTags (.view hu) h)
  · exact h.congr rfl rfl rfl

end Sys2Proof.Machine
end

section
/-! The memory link and the arbiter: what is sent (O14), responses (O22, O28), the choice of the
arbiter (O43), and the link-ups with their credits (O21). -/

namespace Sys2Proof.Machine

variable {s t : State}

/-! ### What is sent on the memory link -/

/-- What has been sent to the memory controller since s holds no REQUEST, and no REQUEST waits for
link-up (spec/06 R126, R146). -/
def State.SendsDirectives (s t : State) : Prop :=
  (∃ l, t.link.sent = s.link.sent ++ l ∧ ∀ m ∈ l, m.isRequest = false) ∧
    ∀ m ∈ t.link.held, m.isRequest = false

/-- Messages without a REQUEST follow others (spec/06 R126). -/
theorem State.SendsDirectives.trans {u : State} (h : s.SendsDirectives u) {l : List MemMsg}
    (hsent : t.link.sent = u.link.sent ++ l) (hl : ∀ m ∈ l, m.isRequest = false)
    (hheld : ∀ m ∈ t.link.held, m.isRequest = false) : s.SendsDirectives t := by
  obtain ⟨⟨l', hu, hl'⟩, -⟩ := h
  refine ⟨⟨l' ++ l, by rw [hsent, hu, List.append_assoc], fun m hm => ?_⟩, hheld⟩
  exact (List.mem_append.1 hm).elim (hl' m) (hl m)

/-- A directive is sent or held (spec/06 R144, R146). -/
theorem State.SendsDirectives.direct (h : s.SendsDirectives t) {m : MemMsg}
    (hm : m.isRequest = false) : s.SendsDirectives (t.direct m) := by
  have hone : ∀ x ∈ [m], x.isRequest = false := by simpa using hm
  cases hup : t.link.up with
  | true =>
    refine h.trans (l := [m]) ?_ hone ?_
    · simp [MemLink.direct, hup]
    · simpa [MemLink.direct, hup] using h.2
  | false =>
    refine h.trans (l := []) ?_ (by simp) fun x hx => ?_
    · simp [MemLink.direct, hup]
    · rw [State.direct_link, MemLink.direct, hup] at hx
      exact (List.mem_append.1 hx).elim (h.2 x) (hone x)

/-- Elementary effects send directives alone. -/
theorem State.Effects.sendsDirectives (h : s.Effects t)
    (hs : ∀ m ∈ s.link.held, m.isRequest = false) : s.SendsDirectives t := by
  induction h with
  | start => exact ⟨⟨[], by simp, by simp⟩, hs⟩
  | unread _ ht ih =>
    obtain ⟨-, -, -, -, -, hl, -⟩ := State.linkView_parts ht
    rwa [State.SendsDirectives, hl]
  | directed _ hm ih => exact ih.direct hm
  | memoryLinkUp _ ih => exact ih.trans rfl ih.2 (by simp)
  | hardReset _ ih =>
    exact ih.trans (l := []) (by simp [State.hardReset]) (by simp)
      (by simp [State.hardReset, MemLink.reset])
  | posted _ _ ih | noticeTaken _ ih | noticesCleared _ ih | credited _ _ _ ih
    | arbiterCleared _ ih | configured _ _ ih | reached _ _ ih | directiveTimed _ _ ih
    | admitted _ _ ih | answered _ _ ih | flushed _ ih | settled _ _ _ ih
    | retagged _ _ _ ih => exact ih

/-- What an issue leaves: one REQUEST sent, one credit spent, and its tag IN_USE
(spec/06 R126, R128, R130). -/
theorem sent_of_issue {u : State} {tag : Tag} {o : Origin} {a : Addr} {b : ReqBody}
    (hl : t.link = (u.issue tag o a b).link) (htags : t.tags = (u.issue tag o a b).tags) :
    t.link.sent = u.link.sent ++ [.request tag a b] ∧ t.link.credits = u.link.credits - 1 ∧
      (t.tags[tag]).isInUse = true := by
  refine ⟨by rw [hl]; rfl, by rw [hl]; rfl, ?_⟩
  rw [htags, State.issue_tags, tags_set_get, if_pos rfl]
  rfl

/-- Settles O14: elementary effects send directives alone, and an issue needs a grant, which needs a
link credit. -/
theorem requestsLeaveOnlyAtGrants : Obligations.RequestsLeaveOnlyAtGrants := by
  intro i s t hheld he
  cases exec_linkMove he with
  | effects h =>
    obtain ⟨⟨l, hl, hdir⟩, -⟩ := h.sendsDirectives hheld
    exact ⟨l, hl, .inl hdir⟩
  | headIssued _ hg hf ht =>
    obtain ⟨-, -, htags, -, -, hl, -⟩ := State.linkView_parts ht
    obtain ⟨hsent, hcred, huse⟩ := sent_of_issue (u := s.passHead) hl htags
    have hpass : s.passHead.link.sent = s.link.sent ∧
        s.passHead.link.credits = s.link.credits := by
      unfold State.passHead
      split <;> exact ⟨rfl, rfl⟩
    obtain ⟨-, hcredit, -⟩ := grant_needs hg
    rw [hpass.1] at hsent
    rw [hpass.2] at hcred
    exact ⟨_, hsent, .inr ⟨hcredit, hcred, .inl rfl, _, _, _, rfl, hf, huse⟩⟩
  | chanIssued hg hf ht =>
    obtain ⟨-, -, htags, -, -, hl, -⟩ := State.linkView_parts ht
    obtain ⟨hsent, hcred, huse⟩ := sent_of_issue (u := s.passChan _) hl htags
    obtain ⟨-, hcredit, -⟩ := grant_needs hg
    exact ⟨_, hsent, .inr ⟨hcredit, hcred, .inr ⟨_, rfl⟩, _, _, _, rfl, hf, huse⟩⟩

/-! ### Responses -/

/-- The host status of a memory status (spec/06 R137). -/
theorem hostStatusOf_eq (st : MemStatus) :
    hostStatusOf st = if st = .ok then .okay else .error := by
  cases st <;> rfl

/-- The host gets data with a READ answered OK only (spec/06 R127, R137). -/
theorem hostDataOf_eq (k : Kind) (st : MemStatus) (data : Burst) :
    hostDataOf k st data = if k = .read ∧ st = .ok then some data else none := by
  cases k <;> cases st <;> rfl

/-- Settles O22: the entry is freed and the host answered before the skip link gets the outcome. -/
theorem responseAnswersTheHost : Obligations.ResponseAnswersTheHost := by
  intro s w t st data k a ht l d hup hw htag
  rw [exec_response_eq hup hw]
  simp only [State.takeResponse, htag, hostStatusOf_eq, hostDataOf_eq]
  rcases l with _ | ⟨_ | _, o⟩ <;> rfl

/-- A tag 48 to 63 names no entry (spec/06 R136). -/
theorem exec_response_no_entry {w : Fin 64} (hup : s.link.up = true) (hw : 48 ≤ w.val)
    (st : MemStatus) (data : Burst) :
    exec (.response w st data) s = .next (s.post { kind := .strayResponse }) := by
  simp only [exec, execResponse, hup, if_true, dif_neg (Nat.not_lt.2 hw)]

/-- Settles O28: the entry's status decides, and its origin gives the notice its fields. -/
theorem lateAndStrayResponsesReachNobody : Obligations.LateAndStrayResponsesReachNobody := by
  intro s w t st data hup
  refine ⟨fun hw => exec_response_no_entry hup hw st data, fun hw htag => ?_,
    fun k a ht l hw htag => ?_, fun a c o hw htag => ?_⟩
  all_goals
    rw [exec_response_eq hup hw]
    simp only [State.takeResponse, htag]
  · rfl
  · rfl

/-! ### The arbiter -/

/-- With a FREE tag and a link credit the arbiter's choice is its grant (spec/06 R132). -/
theorem grant_eq_arbiterChoice (hfree : ∃ t : Tag, s.tags[t] = .free) (hc : 0 < s.link.credits) :
    s.grant = s.arbiterChoice := by
  simp [State.grant, lowestFree_isSome hfree, hc]

/-- Without one of the two there is no grant (spec/06 R132). -/
theorem grant_eq_none (h : (∀ t : Tag, s.tags[t] ≠ .free) ∨ s.link.credits = 0) :
    s.grant = none := by
  rcases h with h | h
  · simp [State.grant, lowestFree_eq_none h]
  · simp [State.grant, h]

/-- Without a standing FORWARD the head does not ask (spec/06 R132). -/
theorem headAsks_eq_false (h : s.dispatch.headClass ≠ some .forward) : s.headAsks = false := by
  simp [State.headAsks, h]

/-- No channel stands. -/
theorem chanChoice_eq_none (h0 : s.chan0.asks = false) (h1 : s.chan1.asks = false) :
    s.chanChoice = none := by
  simp [State.chanChoice, h0, h1]

/-- The head is chosen while it stands alone or the fill-pass count is below FILL_SHARE
(spec/06 R133). -/
theorem arbiterChoice_head (hh : s.headAsks = true)
    (h : s.chanChoice = none ∨ s.link.fillPass < s.settings.fillShare) :
    s.arbiterChoice = some .head := by
  unfold State.arbiterChoice
  rw [hh]
  rcases hc : s.chanChoice with _ | c
  · rfl
  · exact if_pos (h.resolve_left (by rw [hc]; nofun))

/-- A channel is chosen where no head stands, or the fill-pass count has come to FILL_SHARE
(spec/06 R133). -/
theorem arbiterChoice_chan {c : Chan} (hc : s.chanChoice = some c)
    (h : s.headAsks = false ∨ s.settings.fillShare ≤ s.link.fillPass) :
    s.arbiterChoice = some (.chan c) := by
  unfold State.arbiterChoice
  rw [hc]
  cases hh : s.headAsks with
  | false => rfl
  | true => exact if_neg (Nat.not_lt.2 (h.resolve_left (by simp [hh])))

/-- Settles O43: the channels' choice is made first, and then the head's share decides. -/
theorem arbiterChoosesByFillShare : Obligations.ArbiterChoosesByFillShare := by
  intro s
  refine ⟨grant_eq_none, fun hfree hcred => ?_⟩
  rw [grant_eq_arbiterChoice hfree hcred]
  refine ⟨fun hno h0 h1 => ?_, fun hfwd h => ?_, fun h => ?_⟩
  · simp only [State.arbiterChoice, headAsks_eq_false hno, chanChoice_eq_none h0 h1]
  · exact arbiterChoice_head (decide_eq_true hfwd) (h.imp_left fun ⟨h0, h1⟩ =>
      chanChoice_eq_none h0 h1)
  · have hchan {c : Chan} (hc : s.chanChoice = some c) : s.arbiterChoice = some (.chan c) :=
      arbiterChoice_chan hc (h.imp_left headAsks_eq_false)
    refine ⟨fun h0 h1 => hchan ?_, fun h0 h1 => hchan ?_, fun h0 h1 hlast => hchan ?_,
      fun h0 h1 hlast => hchan ?_⟩
    · simp [State.chanChoice, h0, h1]
    · simp [State.chanChoice, h0, h1]
    · simp [State.chanChoice, h0, h1, hlast, otherChan]
    · simp [State.chanChoice, h0, h1, hlast, otherChan]

/-! ### The link-ups -/

/-- The host link comes up once, and grants its 16 credits (spec/07 R161). -/
theorem exec_hostLinkUp_eq (hrst : s.pins.inReset = false) (hup : s.host.up = false)
    (howed : s.host.owed = 0) (hbal : s.host.balance = 0) :
    exec .hostLinkUp s = .next { s with
      host := { s.host with up := true, balance := 16, sent := s.host.sent ++ [.credit 16] } } := by
  simp [exec, execHostLinkUp, hrst, hup, State.returnCredits, HostLink.sendCredit, howed, hbal,
    Config.hostCredits]

/-- A done message is not taken before link-up (spec/12 R213). -/
theorem takeDone_of_down (hup : s.link.up = false) (wanted : RetState) (matched : State → State) :
    s.takeDone wanted matched = s :=
  if_neg (by simp [hup])

/-- Settles O21: each command looks at its link's state first. -/
theorem linkUpsAndCredits : Obligations.LinkUpsAndCredits := by
  intro s n
  refine ⟨exec_hostLinkUp_eq, fun hrst hup => ?_, fun hup => ?_, fun hup => ?_, fun hup => ?_,
    fun hup r => ?_, fun hup => ⟨?_, ?_, ?_, fun w st data => ?_⟩⟩
  · simp [exec, execMemoryLinkUp, hrst, hup]
  · simp [exec, execHostLinkUp, hup]
  · simp [exec, execMemoryLinkUp, hup]
  · simp [exec, execCredit, hup, Config.linkCreditBound]
  · simp [exec, execRequest, hup]
  · simp [exec, execCredit, hup]
  · exact congrArg _ (takeDone_of_down hup _ _)
  · exact congrArg _ (takeDone_of_down hup _ _)
  · simp [exec, execResponse, hup]

end Sys2Proof.Machine
end

section
/-! What a command can do to the credits and the messages of the host link (spec/07 R151 to R157):
in one event requests arrive or leave, RESPONSEs are sent, and then the credits of what has left are
returned in one CREDIT. -/

namespace Sys2Proof.Machine

/-! ### What the credit law reads -/

/-- What the credit law reads of a state, and R151 speaks of: the Host Link and the Request
Queue. -/
def State.hostView (s : State) : HostLink × List HostRequest := (s.host, s.requests)

theorem State.hostView_eq {s t : State} (hh : t.host = s.host) (hr : t.requests = s.requests) :
    t.hostView = s.hostView :=
  Prod.ext hh hr

theorem State.hostView_parts {s t : State} (h : t.hostView = s.hostView) :
    t.host = s.host ∧ t.requests = s.requests :=
  Prod.mk.inj h

/-- The credits accounted for between events: in the host's hand, or spent on a queued request
(spec/07 R157). -/
def State.creditTotal (s : State) : Nat := s.host.balance + s.requests.length

/-- The credit law as one equation (spec/07 R157). -/
theorem creditLaw_iff (s : State) :
    s.CreditLaw ↔ s.host.owed = 0 ∧ s.creditTotal = if s.host.up then 16 else 0 := by
  unfold State.CreditLaw State.creditTotal
  refine and_congr_right fun howed => ?_
  cases s.host.up with
  | true => simp [howed]
  | false => simp

theorem State.CreditLaw.total_le {s : State} (h : s.CreditLaw) : s.creditTotal ≤ 16 := by
  obtain ⟨-, htotal⟩ := (creditLaw_iff s).1 h
  rw [htotal]
  split <;> decide

/-! ### Within an event -/

/-- The point within an event from s at which RESPONSEs have been sent, and n credits, of requests
that have left, are still to be returned. -/
structure State.Answered (s u : State) (n : Nat) : Prop where
  up : u.host.up = s.host.up
  owed : u.host.owed = s.host.owed
  total : u.creditTotal + n = s.creditTotal
  sent : ∃ l, (∀ m ∈ l, m.isResponse = true) ∧ u.host.sent = s.host.sent ++ l

variable {s t u v : State} {n : Nat}

/-- An event begins with nothing to return. -/
theorem State.Answered.start : s.Answered s 0 := ⟨rfl, rfl, rfl, [], by simp, by simp⟩

theorem State.Answered.view (h : s.Answered u n) (hv : v.hostView = u.hostView) :
    s.Answered v n := by
  obtain ⟨hup, howed, htotal, hsent⟩ := h
  obtain ⟨hh, hr⟩ := State.hostView_parts hv
  rw [← hh] at hup howed hsent
  refine ⟨hup, howed, ?_, hsent⟩
  rwa [State.creditTotal, hh, hr]

/-- A RESPONSE is sent (spec/07 R155). -/
theorem State.Answered.respond (h : s.Answered u n) (ht : HostTag) (st : HostStatus)
    (data : Option Burst) : s.Answered (u.respond ht st data) n := by
  obtain ⟨hup, howed, htotal, l, hl, hsent⟩ := h
  refine ⟨hup, howed, htotal, l ++ [.response ht st data], fun m hm => ?_, ?_⟩
  · rcases List.mem_append.1 hm with hm | hm
    · exact hl m hm
    · rw [List.mem_singleton.1 hm]
      rfl
  · rw [State.respond_sent, hsent, List.append_assoc]

theorem State.Answered.respondAll (h : s.Answered u n) (st : HostStatus) (rs : List HostRequest) :
    s.Answered (State.respondAll st rs u) n := by
  induction rs generalizing u with
  | nil => exact h
  | cons r rs ih => exact ih (h.respond r.tag st none)

/-- An arriving request uses one credit, and may make its host tag outstanding (spec/07 R152). -/
theorem State.Answered.spend (h : s.Answered u n) (hb : u.host.balance ≠ 0) (o : HostTagSet) :
    s.Answered { u with host := { u.host with balance := u.host.balance - 1, outstanding := o } }
      (n + 1) := by
  obtain ⟨hup, howed, htotal, hsent⟩ := h
  refine ⟨hup, howed, ?_, hsent⟩
  unfold State.creditTotal at *
  dsimp only
  omega

/-- The request that used a credit joins the Request Queue (spec/02 R23). -/
theorem State.Answered.append (h : s.Answered u (n + 1)) (r : HostRequest) :
    s.Answered (u.append r) n := by
  obtain ⟨hup, howed, htotal, hsent⟩ := h
  refine ⟨hup, howed, ?_, hsent⟩
  unfold State.creditTotal at *
  rw [State.append, List.length_append, List.length_singleton]
  dsimp only
  omega

/-- The head leaves the Request Queue, and its credit is to be returned (spec/02 R24). -/
theorem State.Answered.popHead (h : s.Answered u n) (hr : u.requests ≠ []) :
    s.Answered u.popHead (n + 1) := by
  obtain ⟨hup, howed, htotal, hsent⟩ := h
  refine ⟨hup, howed, ?_, hsent⟩
  have hpos := List.length_pos_iff.2 hr
  unfold State.creditTotal at *
  rw [State.popHead_host, State.popHead_requests, List.length_tail]
  omega

/-- Every request leaves the Request Queue, and their credits are to be returned (spec/02 R25). -/
theorem State.Answered.empty (h : s.Answered u n) :
    s.Answered { u with requests := [] } (n + u.requests.length) := by
  obtain ⟨hup, howed, htotal, hsent⟩ := h
  refine ⟨hup, howed, ?_, hsent⟩
  unfold State.creditTotal at *
  rw [List.length_nil]
  dsimp only
  omega

/-- Nothing is sent for no credit, and one CREDIT for some (spec/07 R151, R156). -/
theorem State.returnCredits_sent (h : s.host.owed = 0) (n : Nat) :
    (s.returnCredits n).host.sent = s.host.sent ++ if n = 0 then [] else [.credit n] := by
  unfold State.returnCredits HostLink.sendCredit
  rw [h, Nat.zero_add]
  split <;> simp

/-! ### Whole events -/

/-- What a command does on the host link: it sends RESPONSEs and returns no credit, or then returns
the credits of the requests that left, or it brings the link up, or resets it. -/
inductive State.HostMove (s t : State) : Prop
  | kept (h : s.Answered t 0)
  | returned {u : State} {n : Nat} (h : s.Answered u n)
      (ht : t.hostView = (u.returnCredits n).hostView)
  | linkUp (hdown : s.host.up = false)
      (ht : t.hostView =
        (({ s with host := { s.host with up := true } } : State).returnCredits
          Config.hostCredits).hostView)
  | hardReset (ht : t.hostView = s.hardReset.hostView)

/-- A command that leaves the Host Link and the Request Queue. -/
theorem State.HostMove.unchanged (h : t.hostView = s.hostView) : s.HostMove t :=
  .kept (.view .start h)

theorem State.HostMove.view (h : s.HostMove u) (hv : v.hostView = u.hostView) : s.HostMove v := by
  cases h with
  | kept h => exact .kept (h.view hv)
  | returned h ht => exact .returned h (hv.trans ht)
  | linkUp hdown ht => exact .linkUp hdown (hv.trans ht)
  | hardReset ht => exact .hardReset (hv.trans ht)

/-! ### Operations that leave the host link -/

theorem State.postSome_hostView (s : State) (n : Option Notice) :
    (s.postSome n).hostView = s.hostView := by
  cases n <;> rfl

theorem State.setChan_hostView (s : State) (c : Chan) (r : Channel) :
    (s.setChan c r).hostView = s.hostView := by
  cases c <;> rfl

theorem State.issueEffect_hostView (s : State) (tag : Tag) (how : IssueForm) :
    (s.issueEffect tag how).hostView = s.hostView := by
  cases how with
  | plain | writeClaim _ => rfl
  | reissue c o | insert c o => exact s.setChan_hostView c _

theorem State.grantChan_hostView (s : State) (c : Chan) (tag : Tag) :
    (s.grantChan c tag).hostView = s.hostView := by
  have hself := s.setChan_hostView c (s.chan c)
  unfold State.grantChan
  split
  · split
    · exact hself
    · split
      · exact State.setChan_hostView _ c _
      · split
        · exact State.setChan_hostView _ c _
        · exact hself
  · exact hself
  · exact hself

theorem State.startFill_hostView (s : State) (k : Tile) (c : Chan) :
    (s.startFill k c).hostView = s.hostView :=
  State.hostView_eq (by simp) (by simp)

theorem State.tryComplete_hostView (s : State) (c : Chan) :
    (s.tryComplete c).hostView = s.hostView :=
  State.hostView_eq (by simp) (by simp)

theorem State.discardTile_hostView (s : State) (k : Tile) :
    (s.discardTile k).1.hostView = s.hostView := by
  unfold State.discardTile
  split
  · rfl
  · rfl
  · exact State.setChan_hostView _ _ _
  all_goals rfl

theorem State.prepareTile_hostView (s : State) (k : Tile) :
    (s.prepareTile k).1.hostView = s.hostView := by
  unfold State.prepareTile
  split <;> rfl

theorem State.adoptTile_hostView (s : State) (k : Tile) :
    (s.adoptTile k).1.hostView = s.hostView := by
  unfold State.adoptTile
  split <;> rfl

theorem State.startDrain_hostView (s : State) : s.startDrain.hostView = s.hostView :=
  State.hostView_eq (by simp) (by simp)

theorem State.settleDrain_hostView (s : State) : s.settleDrain.hostView = s.hostView :=
  State.hostView_eq (by simp) (by simp)

theorem State.settleDisengage_hostView (s : State) : s.settleDisengage.hostView = s.hostView :=
  State.hostView_eq (by simp) (by simp)

theorem State.settleRestart_hostView (s : State) : s.settleRestart.hostView = s.hostView :=
  State.hostView_eq (by simp) (by simp)

theorem State.settleTag_hostView (s : State) : s.settleTag.hostView = s.hostView :=
  State.hostView_eq (by simp) (by simp)

theorem State.handFill_hostView (s : State) (c : Chan) (o : Nat) (tag : Tag) (ok : Bool) :
    (s.handFill c o tag ok).hostView = s.hostView :=
  State.hostView_eq (by simp) (by simp)

theorem State.handSkip_hostView (s : State) (l : Option SkipLink) (tag : Tag) (ok : Bool) :
    (s.handSkip l tag ok).hostView = s.hostView :=
  State.hostView_eq (by simp) (by simp)

@[simp] theorem State.reachDirective_host (s : State) : s.reachDirective.host = s.host := by
  obtain ⟨d, he⟩ := s.reachDirective_eq
  rw [he]

@[simp] theorem State.reachDirective_requests (s : State) :
    s.reachDirective.requests = s.requests := by
  obtain ⟨d, he⟩ := s.reachDirective_eq
  rw [he]

theorem State.entered_hostView (s : State) : s.entered.hostView = s.hostView := by
  unfold State.entered
  dsimp only
  split <;> rfl

theorem State.exited_hostView (s : State) : s.exited.hostView = s.hostView :=
  State.startDrain_hostView _

theorem State.takeDone_hostView (s : State) (wanted : RetState) {matched : State → State}
    (hm : ∀ u : State, (matched u).hostView = u.hostView) :
    (s.takeDone wanted matched).hostView = s.hostView := by
  unfold State.takeDone
  split
  · dsimp only
    split
    · exact (hm _).trans s.settleDrain_hostView
    · exact s.settleDrain_hostView
  · rfl

theorem State.slpFell_hostView (s : State) : s.slpFell.hostView = s.hostView := by
  unfold State.slpFell
  dsimp only
  split <;> rfl

theorem State.raiseSelect_hostView (s : State) : s.raiseSelect.hostView = s.hostView := by
  unfold State.raiseSelect
  split <;> rfl

theorem State.acceptEngage_hostView (s : State) (option : Byte) :
    (s.acceptEngage option).hostView = s.hostView := by
  unfold State.acceptEngage
  split <;> rfl

theorem State.acceptDisengage_hostView (s : State) :
    s.acceptDisengage.hostView = s.hostView := by
  rw [acceptDisengage_eq, State.settleDisengage_hostView]
  simp only [State.disengaging, State.hostView]

/-! ### Arrival, the head, and the flush -/

/-- A request that has used its credit is queued, or refused with its credit returned
(spec/02 R23). -/
theorem State.Answered.handArrival (h : s.Answered u 1) (r : HostRequest) :
    s.HostMove (u.handArrival r) := by
  have hqueued : s.Answered (u.append r) 0 := h.append r
  unfold State.handArrival
  split
  · exact .kept hqueued
  · exact .kept hqueued
  · exact .kept hqueued
  · split
    · exact .kept (hqueued.view rfl)
    · exact .kept hqueued
  · split
    · exact .kept (hqueued.view (State.hostView_eq (by simp) (by simp)))
    · refine .returned (State.Answered.respond ?_ r.tag .refused none) rfl
      exact h.view rfl
  · exact .returned (h.respond r.tag .refused none) rfl

/-- A request that is taken uses a credit, which a tag clash returns (spec/07 R152, R154). -/
theorem hostMove_receive (hb : s.host.balance ≠ 0) (r : HostRequest) :
    s.HostMove (s.receive r) := by
  have hspent := State.Answered.start.spend hb
  unfold State.receive
  dsimp only
  split
  · refine .returned (State.Answered.view (hspent s.host.outstanding) ?_) rfl
    rfl
  · exact State.Answered.handArrival (hspent _) r

/-- The head that is answered leaves with its credit, and no other outcome of a classification
reaches the host link (spec/02 R28, R43). -/
theorem hostMove_settleHead (hr : s.requests ≠ []) (r : HostRequest) (d : Decision) :
    s.HostMove (s.settleHead r d) := by
  cases d with
  | answer st data n =>
    have hpost := s.postSome_hostView n
    obtain ⟨-, hreq⟩ := State.hostView_parts hpost
    refine .returned (((State.Answered.start.view hpost).respond r.tag st data).popHead ?_) rfl
    rw [State.respond_requests, hreq]
    exact hr
  | forward how => exact .unchanged rfl
  | wait => exact .unchanged rfl
  | claim c => cases c <;> exact .unchanged rfl

/-- A granted head is issued and leaves with its credit, or takes another outcome (spec/02 R29,
R44). -/
theorem hostMove_grantHead (hr : s.requests ≠ []) (r : HostRequest) (tag : Tag) :
    s.HostMove (s.grantHead r tag) := by
  by_cases hfwd : ∃ how, classify s r = .forward how
  · obtain ⟨how, hc⟩ := hfwd
    obtain ⟨tags, l, he⟩ := s.passHead_issue_eq tag
      (.host r.body.kind (burstAddr r.addr) r.tag how.link) (burstAddr r.addr)
      (how.body s.settings r.body)
    simp only [State.grantHead, hc, State.issueHead, he]
    have hissued := State.issueEffect_hostView { s with tags := tags, link := l } tag how
    obtain ⟨-, hreq⟩ := State.hostView_parts hissued
    refine .returned (State.Answered.popHead (.view .start hissued) ?_) rfl
    rw [hreq]
    exact hr
  · rw [grantHead_eq_settleHead tag fun how hc => hfwd ⟨how, hc⟩]
    exact hostMove_settleHead hr r _

/-- A flush answers every queued request and returns all their credits at once (spec/02 R25,
spec/07 R151). -/
theorem hostMove_flush (hu : u.hostView = s.hostView) (st : HostStatus) :
    s.HostMove (u.flush st) := by
  have hall := State.Answered.empty
    (State.Answered.respondAll (State.Answered.start.view hu) st u.requests)
  rw [respondAll_eq, Nat.zero_add] at hall
  refine .returned hall ?_
  rw [State.flush, respondAll_eq]
  rfl

/-- The halt flushes the Request Queue (spec/04 R100). -/
theorem hostMove_halted (hu : u.hostView = s.hostView) : s.HostMove u.halted := by
  refine hostMove_flush ?_ .refused
  exact hu

/-! ### The memory link -/

/-- A response answers the host request that holds its tag, and no other reaches the host
(spec/06 R136 to R138, R141). -/
theorem hostMove_takeResponse (s : State) (tag : Tag) (st : MemStatus) (data : Burst) :
    s.HostMove (s.takeResponse tag st data) := by
  unfold State.takeResponse
  split
  · exact .unchanged rfl
  · exact .unchanged rfl
  · next k _ ht l _ _ =>
    refine .kept (State.Answered.view ?_
      ((State.settleTag_hostView _).trans (State.handSkip_hostView _ l tag _)))
    refine State.Answered.respond ?_ ht _ _
    exact .view .start rfl
  · exact .unchanged ((State.settleTag_hostView _).trans (State.handFill_hostView _ _ _ tag _))

/-- A response deadline that passes answers the host request TIMEOUT (spec/06 R139). -/
theorem hostMove_execResponseTimeout (tag : Tag) (he : execResponseTimeout tag s = .next t) :
    s.HostMove t := by
  refine next_inj ?_ he
  split
  · next k a ht l d _ =>
    split
    · refine .kept (State.Answered.view ?_
        ((State.settleTag_hostView _).trans (State.handSkip_hostView _ l tag _)))
      refine State.Answered.respond ?_ ht _ _
      exact .view .start rfl
    · exact .unchanged rfl
  all_goals exact .unchanged rfl

/-- The deadline of a fill write does not reach the host (spec/06 R140). -/
theorem hostMove_execFillWriteTimeout (tag : Tag) (he : execFillWriteTimeout tag s = .next t) :
    s.HostMove t := by
  refine next_inj (.unchanged ?_) he
  split
  · split
    · exact (State.settleTag_hostView _).trans (State.handFill_hostView _ _ _ tag _)
    · rfl
  all_goals rfl

/-! ### The management port -/

/-- A command that is taken from its frame does on the host link what its event does, or nothing
(spec/09 R176). -/
theorem State.HostMove.takeCommand (h : s.HostMove u) (k : Nat) (reply : List Byte) :
    s.HostMove (s.takeCommand k u reply) := by
  unfold State.takeCommand
  split
  · exact h.view rfl
  · exact .unchanged rfl

/-- A long command does on the host link what its acceptance does, or nothing (spec/09 R175,
R185). -/
theorem State.HostMove.takeLong (h : s.HostMove u) (c : LongCmd) (k : Nat) (why : Option Reason) :
    s.HostMove (s.takeLong c k why u) := by
  unfold State.takeLong
  split
  · split
    · exact .unchanged rfl
    · refine State.HostMove.takeCommand ?_ k _
      split
      · exact .unchanged rfl
      · exact h
  · exact .unchanged rfl

/-- RESTART flushes the Request Queue (spec/10 R204). -/
theorem hostMove_acceptRestart (s : State) : s.HostMove s.acceptRestart := by
  refine State.HostMove.view (hostMove_flush ?_ .aborted) (State.settleRestart_hostView _)
  rfl

/-! ### Every command -/

/-- Every command makes one of the moves. -/
theorem exec_hostMove {i : Instr} (he : exec i s = .next t) : s.HostMove t := by
  have hself : s.HostMove s := .unchanged rfl
  cases i with
  | request r =>
    refine next_inj ?_ he
    split
    · split
      · exact .unchanged rfl
      · next hb => exact hostMove_receive hb r
    · exact hself
  | hostLinkUp =>
    refine next_inj ?_ he
    split
    · exact hself
    · next h =>
      rw [not_or, Bool.not_eq_true, Bool.not_eq_true] at h
      exact .linkUp h.2 rfl
  | memoryLinkUp | credit _ | unknownCommand _ =>
    refine next_inj (.unchanged ?_) he
    split <;> rfl
  | response w st data =>
    refine next_inj ?_ he
    split
    · split
      · exact hostMove_takeResponse s _ st data
      · exact .unchanged rfl
    · exact hself
  | enterDone =>
    exact next_inj (.unchanged (s.takeDone_hostView _ State.entered_hostView)) he
  | exitDone => exact next_inj (.unchanged (s.takeDone_hostView _ State.exited_hostView)) he
  | responseTimeout tag => exact hostMove_execResponseTimeout tag he
  | fillWriteTimeout tag => exact hostMove_execFillWriteTimeout tag he
  | entryTimeout | exitTimeout =>
    refine next_inj (.unchanged ?_) he
    split
    · exact State.hostView_eq (by simp) (by simp)
    · rfl
  | halt =>
    refine next_inj ?_ he
    split
    · exact hostMove_halted (State.hostView_eq s.reachDirective_host s.reachDirective_requests)
    · exact hself
  | slpReqRise =>
    refine next_inj (.unchanged ?_) he
    split
    · rfl
    · exact State.startDrain_hostView _
  | slpReqFall =>
    refine next_inj (.unchanged ?_) he
    split
    · exact s.slpFell_hostView
    · rfl
  | drainCompletion => exact next_inj (.unchanged s.settleDrain_hostView) he
  | hardReset => exact next_inj (.hardReset rfl) he
  | hardResetEnd =>
    refine next_inj (.unchanged ?_) he
    split
    · exact State.startDrain_hostView _
    · rfl
  | headClassification =>
    refine next_inj ?_ he
    split
    · exact hself
    · next r rest hr =>
      split
      · exact hostMove_settleHead (by rw [hr]; nofun) r _
      · exact hself
  | fillStart =>
    refine next_inj (.unchanged ?_) he
    split
    · split
      · split
        · split
          · exact s.startFill_hostView _ _
          · split
            · exact s.startFill_hostView _ _
            · rfl
        · rfl
      · rfl
    all_goals rfl
  | queueAtHead =>
    refine next_inj (.unchanged ?_) he
    split
    · split
      · unfold State.takeQueueAtHead
        split <;> rfl
      · rfl
    all_goals rfl
  | promotion =>
    refine next_inj (.unchanged ?_) he
    split
    · split
      · split <;> rfl
      · rfl
    all_goals rfl
  | headGrant =>
    refine next_inj ?_ he
    split
    · next r rest tag hr _ =>
      split
      · exact hostMove_grantHead (by rw [hr]; nofun) r tag
      · exact hself
    all_goals exact hself
  | channelGrant c =>
    refine next_inj (.unchanged ?_) he
    split
    · split
      · exact s.grantChan_hostView c _
      · rfl
    · rfl
  | take c =>
    rcases execTake_cases he with rfl | ⟨k, rest, -, rfl⟩
    · exact .unchanged rfl
    · exact .unchanged (s.startFill_hostView k c)
  | cursorStep c =>
    refine next_inj (.unchanged ?_) he
    split
    · split
      · exact (State.tryComplete_hostView _ c).trans (s.setChan_hostView c _)
      · rfl
    · rfl
  | status | result | get _ | set _ _ | readTile _ | readChannel _ | takeNotice =>
    refine next_inj (State.HostMove.takeCommand ?_ _ _) he
    exact .unchanged rfl
  | frameAbandon | frameEnd => exact next_inj (.unchanged s.raiseSelect_hostView) he
  | engage option =>
    exact next_inj (.takeLong (.unchanged (s.acceptEngage_hostView option)) _ _ _) he
  | engageWalkClaim =>
    refine next_inj (.unchanged ?_) he
    split
    · rfl
    · split
      · split
        · exact State.settleDrain_hostView _
        · rfl
      · rfl
  | disengage =>
    exact next_inj (.takeLong (.unchanged s.acceptDisengage_hostView) _ _ _) he
  | disengageEnd => exact next_inj (.unchanged s.settleDisengage_hostView) he
  | restart => exact next_inj ((hostMove_acceptRestart s).takeLong _ _ _) he
  | restartClear => exact next_inj (.unchanged s.settleRestart_hostView) he
  | discard _ _ | prepare _ _ | adopt _ _ =>
    refine next_inj (.takeLong (.unchanged ?_) _ _ _) he
    rfl
  | discardClaim =>
    refine next_inj (.unchanged ?_) he
    split
    · rfl
    · exact s.discardTile_hostView _
  | prepareClaim =>
    refine next_inj (.unchanged ?_) he
    split
    · rfl
    · split
      · rfl
      · exact s.prepareTile_hostView _
  | adoptClaim =>
    refine next_inj (.unchanged ?_) he
    split
    · rfl
    · split
      · rfl
      · exact s.adoptTile_hostView _
  | frameBegin =>
    refine next_inj (.unchanged ?_) he
    split
    · rfl
    · dsimp only
      split <;> rfl

end Sys2Proof.Machine
end

section
/-! The host link: the credit law (O3), the order of what is sent (O15), and the requests that are
dropped at arrival (O19). -/

namespace Sys2Proof.Machine

variable {s t : State}

/-! ### The credit law -/

theorem State.creditTotal_congr (h : t.hostView = s.hostView) : t.creditTotal = s.creditTotal := by
  obtain ⟨hh, hr⟩ := State.hostView_parts h
  rw [State.creditTotal, hh, hr, State.creditTotal]

/-- Credits that are returned are in the host's hand again (spec/07 R156). -/
theorem State.creditTotal_returnCredits (h : s.host.owed = 0) (n : Nat) :
    (s.returnCredits n).creditTotal = s.creditTotal + n := by
  simp only [State.creditTotal, State.returnCredits_balance, State.returnCredits_requests, h]
  omega

/-- Every move keeps the credit law: an event keeps the total, the link-up brings it to 16, and hard
reset to 0. -/
theorem State.HostMove.keeps_credits (m : s.HostMove t) (h : s.CreditLaw) : t.CreditLaw := by
  obtain ⟨howed, htotal⟩ := (creditLaw_iff s).1 h
  rw [creditLaw_iff]
  cases m with
  | kept ha => exact ⟨ha.owed.trans howed, by rw [ha.up, ← htotal, ← ha.total, Nat.add_zero]⟩
  | returned ha ht =>
    obtain ⟨hh, -⟩ := State.hostView_parts ht
    have hsum := State.creditTotal_returnCredits (ha.owed.trans howed)
    exact ⟨by rw [hh, State.returnCredits_owed],
      by rw [State.creditTotal_congr ht, hsum, ha.total, htotal, hh, State.returnCredits_up, ha.up]⟩
  | linkUp hdown ht =>
    obtain ⟨hh, -⟩ := State.hostView_parts ht
    have hsum := State.creditTotal_returnCredits
      (s := { s with host := { s.host with up := true } }) howed Config.hostCredits
    have hzero : s.creditTotal = 0 := by rw [htotal, hdown]; rfl
    refine ⟨by rw [hh, State.returnCredits_owed], ?_⟩
    rw [State.creditTotal_congr ht, hsum, hh, State.returnCredits_up]
    exact congrArg (· + 16) hzero
  | hardReset ht =>
    obtain ⟨hh, -⟩ := State.hostView_parts ht
    rw [State.creditTotal_congr ht, hh]
    exact ⟨rfl, rfl⟩

/-- Settles O3: every command makes a move that keeps the law, and a tick leaves what it reads. -/
theorem stepKeepsCreditLaw : Obligations.StepKeepsCreditLaw := by
  intro s t h hstep
  rcases step_cases hstep with ⟨c, rest, -, he⟩ | ⟨c, -, -, he⟩ | ⟨-, -, rfl⟩
  · exact (exec_hostMove he).keeps_credits h
  · exact (exec_hostMove he).keeps_credits h
  · exact h

/-! ### What is sent -/

/-- Settles O15: a move sends its RESPONSEs first, and returns no more credits than there are. -/
theorem responsesPrecedeTheCredit : Obligations.ResponsesPrecedeTheCredit := by
  intro i s t h he
  cases exec_hostMove he with
  | kept ha =>
    obtain ⟨l, hl, hsent⟩ := ha.sent
    exact ⟨l, hl, .inl hsent⟩
  | @returned _ n ha ht =>
    obtain ⟨hh, -⟩ := State.hostView_parts ht
    obtain ⟨l, hl, hsent⟩ := ha.sent
    have hcredit := State.returnCredits_sent (ha.owed.trans h.1) n
    rw [← hh, hsent] at hcredit
    refine ⟨l, hl, ?_⟩
    split at hcredit
    · exact .inl (by rw [hcredit, List.append_nil])
    · next hn =>
      have hle : n ≤ s.creditTotal := ha.total ▸ Nat.le_add_left _ _
      exact .inr ⟨n, Nat.pos_of_ne_zero hn, hle.trans h.total_le, hcredit⟩
  | linkUp hdown ht =>
    obtain ⟨hh, -⟩ := State.hostView_parts ht
    have hcredit := State.returnCredits_sent
      (s := { s with host := { s.host with up := true } }) h.1 Config.hostCredits
    refine ⟨[], by simp, .inr ⟨16, by decide, le_rfl, ?_⟩⟩
    rw [hh, hcredit, List.append_nil]
    rfl
  | hardReset ht =>
    obtain ⟨hh, -⟩ := State.hostView_parts ht
    exact ⟨[], by simp, .inl (by rw [hh]; simp [State.hardReset])⟩

/-! ### Requests dropped at arrival -/

/-- A request without a credit is dropped (spec/07 R153). -/
theorem exec_request_overrun {r : HostRequest} (hup : s.host.up = true)
    (hb : s.host.balance = 0) :
    exec (.request r) s = .next (s.post (requestNotice .creditOverrun r)) := by
  simp only [exec, execRequest, hup, hb, if_true]

/-- A request under an outstanding host tag is dropped, and the credit it used returned
(spec/07 R154). -/
theorem exec_request_clash {r : HostRequest} (hup : s.host.up = true) (hb : 0 < s.host.balance)
    (ht : hasTag s.host.outstanding r.tag = true) :
    exec (.request r) s = .next
      ((({ s with host := { s.host with balance := s.host.balance - 1 } } : State).post
        (requestNotice .tagClash r)).returnCredits 1) := by
  simp only [exec, execRequest, State.receive, hup, if_true, if_neg (Nat.ne_of_gt hb), ht]

/-- Settles O19: the credit check comes first, and a clash undoes the spending of the credit. -/
theorem overrunAndClashAreDropped : Obligations.OverrunAndClashAreDropped := by
  intro s r hup howed
  refine ⟨fun hb => exec_request_overrun hup hb, fun hb ht => ?_⟩
  have hback : s.host.balance - 1 + 1 = s.host.balance := Nat.sub_add_cancel hb
  rw [exec_request_clash hup hb ht]
  simp [State.returnCredits, HostLink.sendCredit, State.post, requestNotice, howed, hback]

end Sys2Proof.Machine
end

section
/-! The Notice Queue: how a posted notice is handled (O18) and what TAKE_NOTICE replies and leaves
(O54). -/

namespace Sys2Proof.Machine

/-! ### Posting -/

/-- Where there is room a counted notice is stored at the tail (spec/08 R164, R170). -/
theorem NoticeQueue.count_of_room {q : NoticeQueue} (h : q.records.length < 32) (n : Notice) :
    q.count n = { records := q.records ++ [{ seq := q.counter, notice := n }], lost := q.lost,
                  counter := q.counter + 1, attnLow := true } :=
  if_pos h

/-- Behind 32 records a counted notice is lost (spec/08 R164, R166). -/
theorem NoticeQueue.count_of_full {q : NoticeQueue} (h : 32 ≤ q.records.length) (n : Notice) :
    q.count n = { q with lost := min 65535 (q.lost + 1), counter := q.counter + 1 } :=
  if_neg (Nat.not_lt.2 h)

/-- A notice of a kind outside NOTICE_MASK is masked (spec/08 R164). -/
theorem State.post_of_masked {s : State} {n : Notice}
    (h : s.settings.noticeMask.getLsbD n.kind.code = false) : s.post n = s := by
  simp only [State.post, NoticeQueue.posted, h, Bool.false_eq_true, if_false]

/-- A notice of a kind in NOTICE_MASK is counted (spec/08 R164). -/
theorem State.post_of_enabled {s : State} {n : Notice}
    (h : s.settings.noticeMask.getLsbD n.kind.code = true) :
    s.post n = { s with notices := s.notices.count n } := by
  simp only [State.post, NoticeQueue.posted, h, if_true]

/-- Settles O18: the mask decides whether a notice is counted, and the records stored whether a
counted one is stored or lost. -/
theorem postedNoticeIsMaskedStoredOrLost : Obligations.PostedNoticeIsMaskedStoredOrLost := by
  intro s n
  refine ⟨State.post_of_masked, fun hmask hroom => ?_, fun hmask hfull => ?_⟩
  · rw [State.post_of_enabled hmask, NoticeQueue.count_of_room (Nat.lt_succ_of_le hroom)]
  · rw [State.post_of_enabled hmask, NoticeQueue.count_of_full hfull.ge]

/-! ### The bytes of a record -/

/-- The lost count and the kept bands take two bytes, the high one first (spec/09 R195). -/
theorem bytesBE_two (v : Nat) : bytesBE 2 v = [BitVec.ofNat 8 (v / 256), BitVec.ofNat 8 v] := by
  simp [bytesBE]

/-- A sequence number's two bytes are its high and its low half (spec/09 R195). -/
theorem bytesBE_two_toNat (x : BitVec 16) :
    bytesBE 2 x.toNat = [x.extractLsb' 8 8, x.extractLsb' 0 8] := by
  have hhigh : BitVec.ofNat 8 (x.toNat / 256) = x.extractLsb' 8 8 := by
    rw [BitVec.extractLsb', Nat.shiftRight_eq_div_pow]
  have hlow : BitVec.ofNat 8 x.toNat = x.extractLsb' 0 8 := by
    rw [BitVec.extractLsb', Nat.shiftRight_zero]
  rw [bytesBE_two, hhigh, hlow]

/-- A one-byte field is its number, or 0x00 where it is absent (spec/09 R184). -/
theorem optBytes_one (o : Option Nat) : optBytes 1 o = [BitVec.ofNat 8 (o.getD 0)] := by
  simp [optBytes_eq, bytesBE]

/-- A field that is a byte is carried as it is, or as 0x00 where it is absent (spec/09 R184). -/
theorem optBytes_one_byte {α : Type} (f : α → Byte) (o : Option α) :
    optBytes 1 (o.map fun x => (f x).toNat) = [(o.map f).getD 0x00] := by
  cases o with
  | none => rfl
  | some x => simp [optBytes_one]

/-- The field-present flags, bit by bit: tile, address, host tag, channel and kept sets from bit 0
on, and three clear bits above (spec/09 R195). -/
theorem Notice.presentFlags_eq (n : Notice) :
    n.presentFlags = 0#3 ++ BitVec.ofBool n.kept.isSome ++ BitVec.ofBool n.chan.isSome ++
      BitVec.ofBool n.hostTag.isSome ++ BitVec.ofBool n.addr.isSome ++
      BitVec.ofBool n.tile.isSome := by
  have hbits : ∀ t a h c k : Bool,
      flagBit 0 t ||| flagBit 1 a ||| flagBit 2 h ||| flagBit 3 c ||| flagBit 4 k =
        0#3 ++ BitVec.ofBool k ++ BitVec.ofBool c ++ BitVec.ofBool h ++ BitVec.ofBool a ++
          BitVec.ofBool t := by decide
  exact hbits _ _ _ _ _

/-- A record as TAKE_NOTICE carries it: every field in its place, 0 where it is absent
(spec/09 R184, R195). -/
theorem NoticeRecord.reply_eq (r : NoticeRecord) :
    r.reply =
      [r.seq.extractLsb' 8 8, r.seq.extractLsb' 0 8, BitVec.ofNat 8 r.notice.kind.code,
        r.notice.presentFlags, BitVec.ofNat 8 ((r.notice.tile.map fun t => t.val).getD 0)] ++
      bytesBE 5 ((r.notice.addr.map fun a => a.toNat).getD 0) ++
      [BitVec.ofNat 8 ((r.notice.hostTag.map fun t => t.val).getD 0),
        (r.notice.chan.map chanByte).getD 0x00, (r.notice.kept.map fun k => k.1).getD 0x00] ++
      bytesBE 2 ((r.notice.kept.map fun k => k.2.toNat).getD 0) := by
  rw [NoticeRecord.reply, bytesBE_two_toNat, optBytes_one_byte chanByte,
    optBytes_one_byte fun k : LaneSet × BandSet => k.1]
  simp only [byteOf, optBytes_one, optBytes_eq 5, optBytes_eq 2, List.append_assoc,
    List.cons_append, List.nil_append]

/-! ### TAKE_NOTICE -/

/-- In an open frame TAKE_NOTICE replies from the Notice Queue and changes it alone
(spec/09 R184). -/
theorem exec_takeNotice_eq {s : State} (h : s.FrameOpen) :
    exec .takeNotice s =
      .next { s.replied 1 s.notices.takeReply with notices := s.notices.taken } := by
  have he : exec .takeNotice s = .next (s.takeCommand 1
    { s with notices := s.notices.taken } s.notices.takeReply) := rfl
  rw [he, takeCommand_eq h, State.replied, State.replied]

/-- With no record stored the reply is the empty indication, and only the lost count is cleared
(spec/08 R169). -/
theorem NoticeQueue.take_of_empty {q : NoticeQueue} (h : q.records = []) :
    q.takeReply = [0x00] ++ bytesBE 2 q.lost ++ List.replicate 15 0x00 ∧
      q.taken = { q with lost := 0 } := by
  simp only [NoticeQueue.takeReply, NoticeQueue.taken, h, and_self]

/-- With a record stored the reply carries the oldest, which is removed; ATTN_N stays low while one
is left (spec/08 R168, R170). -/
theorem NoticeQueue.take_of_stored {q : NoticeQueue} {r : NoticeRecord} {rest : List NoticeRecord}
    (h : q.records = r :: rest) :
    q.takeReply = [0x01] ++ bytesBE 2 q.lost ++ r.reply ∧
      q.taken = { q with records := rest, lost := 0, attnLow := q.attnLow && !rest.isEmpty } := by
  simp only [NoticeQueue.takeReply, NoticeQueue.taken, h, and_self]

/-- Settles O54: the reply and the queue left, with no record stored and with one. -/
theorem takeNoticeTakesTheOldest : Obligations.TakeNoticeTakesTheOldest := by
  intro s hframe lost
  have hlost : bytesBE 2 s.notices.lost = lost := bytesBE_two _
  refine ⟨fun hempty => ?_, fun r rest hstored hattn => ?_⟩
  · obtain ⟨hreply, htaken⟩ := NoticeQueue.take_of_empty hempty
    rw [exec_takeNotice_eq hframe, hreply, htaken, hlost]
    rfl
  · obtain ⟨hreply, htaken⟩ := NoticeQueue.take_of_stored hstored
    rw [exec_takeNotice_eq hframe, hreply, htaken, hlost, NoticeRecord.reply_eq,
      Notice.presentFlags_eq, hattn, Bool.true_and]
    simp only [List.append_assoc]

end Sys2Proof.Machine
end

section
/-! The frames of the management port (O51): the commands a frame's bytes spell (spec/09 R195), how
a frame begins and ends, and what is disregarded outside one (spec/09 R174 to R179). -/

namespace Sys2Proof

/-! ### The bytes of a frame -/

/-- The eight bytes of a value field, joined most significant byte first, are the value
(spec/09 R196). -/
theorem append_valueBytes (v : BitVec 64) :
    v.extractLsb' 56 8 ++ v.extractLsb' 48 8 ++ v.extractLsb' 40 8 ++ v.extractLsb' 32 8 ++
      v.extractLsb' 24 8 ++ v.extractLsb' 16 8 ++ v.extractLsb' 8 8 ++ v.extractLsb' 0 8 = v := by
  have join {start₁ start₂ len₁ len₂ : Nat} (h : start₂ = start₁ + len₁) :=
    BitVec.extractLsb'_append_extractLsb'_eq_extractLsb' (len₂ := len₂) (x := v) h
  rw [join (show 56 = 48 + 8 from rfl), join (show 48 = 40 + 8 from rfl),
    join (show 40 = 32 + 8 from rfl), join (show 32 = 24 + 8 from rfl),
    join (show 24 = 16 + 8 from rfl), join (show 16 = 8 + 8 from rfl),
    join (show 8 = 0 + 8 from rfl)]
  exact BitVec.extractLsb'_eq_self

/-- A code outside the table has no parameter count (spec/09 R175). -/
theorem paramCount_eq_none {code : Byte} (h : code ∉ knownCodes) : paramCount code = none := by
  rw [paramCount, List.lookup_eq_none_iff]
  rintro ⟨k, p⟩ hp
  rw [bne_iff_ne]
  rintro rfl
  exact h (List.mem_map_of_mem hp)

/-- A command's code and parameter bytes spell that command, and the table counts the parameter
bytes (spec/09 R195). -/
theorem commandOf_frameBytes {c : Instr} {code : Byte} {params : List Byte}
    (hc : c.frameBytes = some (code :: params)) (hcode : code ∈ knownCodes)
    (hwf : c.wellFormed = true) :
    commandOf code params = some c ∧ paramCount code = some params.length := by
  cases c with
  | unknownCommand k =>
    cases hc
    simp [Instr.wellFormed, hcode] at hwf
  | set ident value =>
    cases hc
    refine ⟨?_, rfl⟩
    exact congrArg (fun v => some (Instr.set ident v)) (append_valueBytes value)
  | status | result | get _ | readTile _ | readChannel _ | takeNotice | engage _ | disengage
    | discard _ _ | prepare _ _ | adopt _ _ | restart =>
    cases hc
    exact ⟨rfl, rfl⟩
  | _ => cases hc

/-- A whole frame with byte t in it is its command's, whatever bytes follow (spec/09 R176). -/
theorem frameCommands_of_whole {code : Byte} {rest : List Byte} {p : Nat} {c : Instr}
    (hp : paramCount code = some p) (hlen : max 1 p ≤ rest.length)
    (hc : commandOf code (rest.take p) = some c) :
    frameCommands (code :: rest) = [.frameBegin, c, .frameEnd] := by
  simp only [frameCommands, hp, if_pos hlen, hc]

/-- A frame that is over before the end of byte t is abandoned (spec/09 R177). -/
theorem frameCommands_of_cut {code : Byte} {rest : List Byte} {p : Nat}
    (hp : paramCount code = some p) (hlen : rest.length < max 1 p) :
    frameCommands (code :: rest) = [.frameBegin, .frameAbandon] := by
  simp only [frameCommands, hp, if_neg (Nat.not_le.2 hlen)]

/-- A frame with a code that names no command is answered UNKNOWN (spec/09 R175, R179). -/
theorem frameCommands_of_unknown {code : Byte} (h : code ∉ knownCodes) (rest : List Byte) :
    frameCommands (code :: rest) = [.frameBegin, .unknownCommand code, .frameAbandon] := by
  simp only [frameCommands, paramCount_eq_none h]

end Sys2Proof

namespace Sys2Proof.Machine

variable {s : State}

/-! ### Chip-select -/

theorem exec_frameBegin_eq (hcs : s.pins.csLow = false) (hrst : s.pins.inReset = false) :
    exec .frameBegin s = .next { s with
      pins := { s.pins with csLow := true },
      port := { s.port with
        frame := some { position := 0, decided := false, dataOut := [0x00] } } } := by
  simp [exec, execFrameBegin, hcs, hrst, State.setFrame, Frame.begun]

/-- The rise of chip-select ends the frame (spec/09 R177). -/
theorem raiseSelect_of_low (h : s.pins.csLow = true) :
    s.raiseSelect =
      { s with pins := { s.pins with csLow := false }, port := { s.port with frame := none } } :=
  if_pos h

/-! ### Commands in a frame, and outside one -/

theorem exec_unknownCommand_eq (h : s.FrameOpen) {code : Byte} (hcode : code ∉ knownCodes) :
    exec (.unknownCommand code) s = .next { s with port := { s.port with
      frame := some { position := 1, decided := true, dataOut := [0x00, 0xC3] } } } := by
  simp [exec, execUnknownCommand, (frameOpen_iff s).2 h, Instr.wellFormed, hcode, State.setFrame,
    Frame.ignored, unknownByte]

/-- Outside an open frame no long command is taken (spec/09 R174). -/
theorem takeLong_of_not_open (h : ¬ s.FrameOpen) (c : LongCmd) (t : Nat) (why : Option Reason)
    (accepted : State) : s.takeLong c t why accepted = s := by
  rw [← frameOpen_iff] at h
  exact if_neg h

/-- Outside an open frame no command that a frame carries changes anything (spec/09 R174, R175,
R177). -/
theorem exec_of_not_open (h : ¬ s.FrameOpen) {c : Instr} (hc : c.frameBytes.isSome = true) :
    exec c s = .next s := by
  cases c with
  | status | result | get _ | set _ _ | readTile _ | readChannel _ | takeNotice =>
    exact congrArg _ (takeCommand_of_not_open h _ _ _)
  | engage _ | disengage | restart | discard _ _ | prepare _ _ | adopt _ _ =>
    exact congrArg _ (takeLong_of_not_open h _ _ _ _)
  | unknownCommand code =>
    rw [← frameOpen_iff] at h
    exact congrArg _ (if_neg fun hopen => h hopen.1)
  | _ => cases hc

/-- Settles O51: the bytes by the table of R195, and the frame by chip-select. -/
theorem framesBeginAndEnd : Obligations.FramesBeginAndEnd := by
  refine ⟨fun c code params later hwf hc hcode => ?_,
    fun code rest h => frameCommands_of_unknown h rest, ?_,
    fun s => ⟨exec_frameBegin_eq, fun hcs => ?_, fun hopen code => exec_unknownCommand_eq hopen,
      fun hclosed => ?_⟩⟩
  · obtain ⟨hspell, hcount⟩ := commandOf_frameBytes hc hcode hwf
    refine ⟨hspell, fun hlen => ?_, fun n hn => ?_⟩
    · rw [List.cons_append]
      refine frameCommands_of_whole hcount ?_ (by rwa [List.take_left])
      rw [List.length_append] at *
      omega
    · cases n with
      | zero => rfl
      | succ n =>
        refine frameCommands_of_cut hcount ?_
        rw [List.length_take]
        omega
  · exact ⟨rfl, rfl, rfl, rfl, rfl, fun a b => ⟨rfl, rfl, rfl, rfl, rfl, rfl, rfl,
      fun _ _ _ _ _ _ _ _ => rfl⟩⟩
  · exact ⟨congrArg _ (raiseSelect_of_low hcs), congrArg _ (raiseSelect_of_low hcs)⟩
  · have hstay {c : Instr} (hc : c.frameBytes.isSome = true) : exec c s = .next s :=
      exec_of_not_open hclosed hc
    exact ⟨hstay rfl, hstay rfl, hstay rfl, hstay rfl, hstay rfl, fun a b v => ⟨hstay rfl,
      hstay rfl, hstay rfl, hstay rfl, hstay rfl, hstay rfl, hstay rfl, hstay rfl, hstay rfl⟩⟩

end Sys2Proof.Machine
end

section
/-! The immediate commands of the management port and the settings: the replies of the five commands
that read (O52), SET and its checks in order (O53), and the numbers a setting takes and gives back
(O50). -/

namespace Sys2Proof.Machine

variable {s : State}

/-! ### The replies of the commands that read -/

/-- The flags byte of STATUS, bit by bit: release-needed, pending-wake, the attempt count in two
bits, SLP_ACK and whether a long command runs, and two clear bits (spec/09 R195). -/
theorem State.statusFlags_eq (h : s.ret.exitAttempts ≤ 3) :
    s.statusFlags =
      BitVec.ofBool s.ret.releaseNeeded ++ BitVec.ofBool s.ret.pendingWake ++
        BitVec.ofNat 2 s.ret.exitAttempts ++ BitVec.ofBool s.ret.slpAck ++
        BitVec.ofBool s.port.running.isSome ++ 0#2 := by
  have hbits : ∀ (n : Fin 4) (r p a l : Bool),
      flagBit 7 r ||| flagBit 6 p ||| BitVec.ofNat 8 (n.val * 16) ||| flagBit 3 a ||| flagBit 2 l =
        BitVec.ofBool r ++ BitVec.ofBool p ++ BitVec.ofNat 2 n.val ++ BitVec.ofBool a ++
          BitVec.ofBool l ++ 0#2 := by decide
  exact hbits ⟨s.ret.exitAttempts, Nat.lt_succ_of_le h⟩ _ _ _ _

/-- A cursor takes three bytes, the high one first (spec/09 R195). -/
theorem bytesBE_three (v : Nat) :
    bytesBE 3 v = [BitVec.ofNat 8 (v / 65536), BitVec.ofNat 8 (v / 256), BitVec.ofNat 8 v] := by
  simp [bytesBE]

/-- The reply of READ_TILE for a tile (spec/09 R182). -/
theorem State.tileReply_of_tile (s : State) (t : Tile) :
    s.tileReply (BitVec.ofNat 8 t.val) = [0x00, s.tiles[t].code, s.tiles[t].chanCode] := by
  have hidx : (BitVec.ofNat 8 t.val).toNat = t.val := by
    rw [BitVec.toNat_ofNat]
    omega
  simp [State.tileReply, hidx, statusOk]

/-- The reply of READ_TILE for an index past the last tile (spec/09 R182). -/
theorem State.tileReply_of_range (s : State) {b : Byte} (h : 128 ≤ b.toNat) :
    s.tileReply b = [0x03, 0x00, 0x00] :=
  dif_neg (Nat.not_lt.2 h)

/-- The reply of READ_CHANNEL for a channel (spec/09 R183). -/
theorem State.channelReply_of_chan (s : State) (c : Chan) :
    s.channelReply (chanByte c) =
      [0x00, (s.chan c).state.code, (s.chan c).state.tileCode,
       BitVec.ofNat 8 ((s.chan c).cursor / 65536), BitVec.ofNat 8 ((s.chan c).cursor / 256),
       BitVec.ofNat 8 (s.chan c).cursor, BitVec.ofNat 8 (s.chan c).skip.length,
       BitVec.ofNat 8 (s.chan c).inFlight.length, if (s.chan c).paused then 0x01 else 0x00] := by
  have hreply : s.channelReply (chanByte c) = (s.chan c).reply := by cases c <;> rfl
  rw [hreply, Channel.reply, bytesBE_three]
  rfl

/-- The reply of READ_CHANNEL for a number of no channel (spec/09 R183). -/
theorem State.channelReply_of_range (s : State) {b : Byte} (h : 2 ≤ b.toNat) :
    s.channelReply b = [0x03, 0, 0, 0, 0, 0, 0, 0, 0] := by
  have h0 : b ≠ 0 := by rintro rfl; simp at h
  have h1 : b ≠ 1 := by rintro rfl; simp at h
  rw [State.channelReply, if_neg h0, if_neg h1]
  rfl

/-- The reply of GET for a setting (spec/09 R192). -/
theorem Settings.getReply_of_setting (g : Settings) {b : Byte} {id : SettingId}
    (h : settingOf b = some id) : g.getReply b = 0x00 :: bytesBE 8 (g.encode id) := by
  rw [Settings.getReply, h]
  rfl

/-- The reply of GET for an identifier of no setting (spec/09 R192). -/
theorem Settings.getReply_of_range (g : Settings) {b : Byte} (h : settingOf b = none) :
    g.getReply b = [0x03, 0, 0, 0, 0, 0, 0, 0, 0] := by
  rw [Settings.getReply, h]
  rfl

/-- Settles O52: in an open frame each of the five commands leaves its reply alone, and the replies
are those of R195. -/
theorem readCommandsReplyAndChangeNothing : Obligations.ReadCommandsReplyAndChangeNothing := by
  intro s hopen hattempts
  have htaken (reply : List Byte) : s.takeCommand 1 s reply = s.replied 1 reply :=
    takeCommand_eq hopen 1 s reply
  have hstatus : exec .status s = .next (s.replied 1 s.statusReply) := congrArg _ (htaken _)
  have hget (b : Byte) : exec (.get b) s = .next (s.replied 1 (s.settings.getReply b)) :=
    congrArg _ (htaken _)
  have htile (b : Byte) : exec (.readTile b) s = .next (s.replied 1 (s.tileReply b)) :=
    congrArg _ (htaken _)
  have hchan (b : Byte) : exec (.readChannel b) s = .next (s.replied 1 (s.channelReply b)) :=
    congrArg _ (htaken _)
  refine ⟨?_, congrArg _ (htaken _), fun b id hid => ?_, fun b hid => ?_, fun t => ?_,
    fun b hb => ?_, fun c => ?_, fun b hb => ?_⟩
  · rw [hstatus, State.statusReply, State.statusFlags_eq hattempts, bytesBE_two]
    rfl
  · rw [hget, Settings.getReply_of_setting _ hid]
  · rw [hget, Settings.getReply_of_range _ hid]
  · rw [htile, State.tileReply_of_tile]
  · rw [htile, State.tileReply_of_range _ hb]
  · rw [hchan, State.channelReply_of_chan]
  · rw [hchan, State.channelReply_of_range _ hb]

/-! ### SET -/

/-- In an open frame SET replies with its status and leaves the settings it decided on
(spec/09 R193). -/
theorem exec_set_eq (h : s.FrameOpen) (b : Byte) (v : BitVec 64) :
    exec (.set b v) s =
      .next { s.replied 9 [(s.trySet b v).1] with settings := (s.trySet b v).2 } :=
  congrArg _ (takeCommand_eq h 9 { s with settings := (s.trySet b v).2 } [(s.trySet b v).1])

/-- The three settings a SET may change only in BYPASS (spec/09 R190). -/
theorem SettingId.bypassOnly_iff (id : SettingId) :
    id.bypassOnly = true ↔ id = .capacity ∨ id = .granule ∨ id = .fillWord := by
  cases id <;> simp [SettingId.bypassOnly]

/-- The identifier is checked first (spec/09 R193). -/
theorem State.trySet_of_no_setting {b : Byte} (h : settingOf b = none) (v : BitVec 64) :
    s.trySet b v = (0x03, s.settings) := by
  rw [State.trySet, h]
  rfl

/-- The mode is checked next (spec/09 R190, R193). -/
theorem State.trySet_of_mode {b : Byte} {id : SettingId} (h : settingOf b = some id)
    (hid : id.bypassOnly = true) (hm : s.control.mode ≠ .bypass) (v : BitVec 64) :
    s.trySet b v = (0x01, s.settings) := by
  simp only [State.trySet, h, if_pos (And.intro hid hm), statusMode]

/-- The value's range is checked last (spec/09 R193). -/
theorem State.trySet_of_value {b : Byte} {id : SettingId} (h : settingOf b = some id)
    (hm : ¬ (id.bypassOnly = true ∧ s.control.mode ≠ .bypass)) (v : BitVec 64) :
    s.trySet b v =
      ((s.settings.put id v).elim (0x03, s.settings) fun g => (0x00, g)) := by
  simp only [State.trySet, h, if_neg hm]
  cases s.settings.put id v <;> rfl

/-- Settles O53: the three checks of R193, one after the other. -/
theorem setIsCheckedInOrder : Obligations.SetIsCheckedInOrder := by
  intro s b v hopen
  rw [exec_set_eq hopen]
  refine ⟨fun hb => ?_, fun id hb => ⟨fun hm hid => ?_, fun hm => ?_⟩⟩
  · rw [State.trySet_of_no_setting hb]
    rfl
  · rw [State.trySet_of_mode hb ((SettingId.bypassOnly_iff id).2 hid) hm]
    rfl
  · have hpass : ¬ (id.bypassOnly = true ∧ s.control.mode ≠ .bypass) := by
      rw [SettingId.bypassOnly_iff]
      tauto
    rw [State.trySet_of_value hb hpass]
    refine ⟨fun hput => ?_, fun g hput => ?_⟩
    · rw [hput]
      rfl
    · rw [hput]
      rfl

/-! ### The numbers of the settings -/

/-- The setting that was put has the number it was given (spec/09 R192, R193). -/
theorem Settings.encode_put_same {g g' : Settings} {id : SettingId} {v : BitVec 64}
    (h : g.put id v = some g') : g'.encode id = v.toNat := by
  cases id with
  | fillWord =>
    cases h
    rfl
  | voidPolicy | wakeOnAccess =>
    simp only [Settings.put] at h
    split at h <;> cases h
    all_goals next hn => exact hn.symm
  | fillShare | respTimeout | directiveTimeout =>
    simp only [Settings.put] at h
    split at h <;> cases h
    rfl
  | capacity | granule | floorLanes | floorBands | noticeMask =>
    simp only [Settings.put] at h
    split at h <;> cases h
    exact Nat.mod_eq_of_lt (by omega)

/-- No other setting changes (spec/09 R193): an accepted value is written to the field of its own
setting, and the number of another setting is read from another field. -/
theorem Settings.encode_put_other {g g' : Settings} {id other : SettingId} {v : BitVec 64}
    (h : g.put id v = some g') (hne : other ≠ id) : g'.encode other = g.encode other := by
  cases id with
  | fillWord =>
    cases h
    cases other <;> trivial
  | _ =>
    simp only [Settings.put] at h
    split at h <;> cases h
    all_goals cases other <;> trivial

/-- The three policies have the codes 0 to 2 (spec/09 R196). -/
theorem Settings.isSome_put_voidPolicy (g : Settings) (v : BitVec 64) :
    (g.put .voidPolicy v).isSome = true ↔ v.toNat ≤ 2 := by
  simp only [Settings.put]
  split
  · next h => simp [h]
  · next h => simp [h]
  · next h => simp [h]
  · next h0 h1 h2 =>
    simp only [imp_false] at h0 h1 h2
    exact iff_of_false nofun (by omega)

/-- A flag is 0 or 1 (spec/09 R196). -/
theorem Settings.isSome_put_wakeOnAccess (g : Settings) (v : BitVec 64) :
    (g.put .wakeOnAccess v).isSome = true ↔ v.toNat ≤ 1 := by
  simp only [Settings.put]
  split
  · next h => simp [h]
  · next h => simp [h]
  · next h0 h1 =>
    simp only [imp_false] at h0 h1
    exact iff_of_false nofun (by omega)

/-- Settles O50: each setting's range check, and what the setting put encodes to. -/
theorem settingReadsBackAsItWasSet : Obligations.SettingReadsBackAsItWasSet := by
  refine ⟨fun g g' id v h => ⟨Settings.encode_put_same h, fun other =>
    Settings.encode_put_other h, fun hg => hg.put h⟩, fun g v => ?_⟩
  exact ⟨rfl, Option.isSome_ite, Option.isSome_ite, g.isSome_put_voidPolicy v,
    g.isSome_put_wakeOnAccess v, Option.isSome_ite, Option.isSome_ite, Option.isSome_ite,
    Option.isSome_ite, Option.isSome_ite, Option.isSome_ite⟩

end Sys2Proof.Machine
end

section
/-! Hard reset holds (O11): while RST_N is low every block is at its hard-reset value, so that every
command looks for something that is not there, but for those that are a change of an input pin
(spec/12 R213). -/

namespace Sys2Proof

/-- The commands that are a change of an input pin's level: RST_N, SLP_REQ and chip-select
(spec/12). -/
def Instr.movesPin : Instr → Bool
  | .hardReset | .hardResetEnd | .slpReqRise | .slpReqFall => true
  | .frameBegin | .frameEnd | .frameAbandon => true
  | _ => false

end Sys2Proof

namespace Sys2Proof.Machine

variable {s t : State}

/-! ### What the commands find while RST_N is low -/

/-- What the commands look for and do not find while RST_N is low: no message, request, tile on its
way, tag, deadline, frame or walk, and a mode and retention state in which none is awaited. -/
structure State.Stilled (s : State) : Prop where
  inReset : s.pins.inReset = true
  requests : s.requests = []
  claim : s.dispatch.claim = none
  skip (c : Chan) : (s.chan c).skip = []
  fillQueue : s.fillQueue = []
  hostDown : s.host.up = false
  linkDown : s.link.up = false
  credits : s.link.credits = 0
  tags (t : Tag) : s.tags[t] = .free
  active : s.ret.state = .active
  frame : s.port.frame = none
  rangeWalk : s.port.rangeWalk = none
  bypass : s.control.mode = .bypass
  walk : s.control.walk = none

theorem State.ResetLaw.stilled (h : s.ResetLaw) (hrst : s.pins.inReset = true) : s.Stilled := by
  obtain ⟨-, hreq, hdisp, h0, h1, hqueue, hhost, hlink, htags, hret, -, hport, hcontrol, -⟩ := h hrst
  refine ⟨hrst, hreq, ?_, fun c => ?_, hqueue, ?_, ?_, ?_, fun t => ?_, ?_, ?_, ?_, ?_, ?_⟩
  · rw [hdisp]
  · cases c
    · rw [State.chan_ch0, h0]
      rfl
    · rw [State.chan_ch1, h1]
      rfl
  · rw [hhost]
    rfl
  · rw [hlink]
    rfl
  · rw [hlink]
    rfl
  · rw [htags]
    exact reset_tag t.val t.isLt
  · rw [hret]
    rfl
  · rw [hport]
    rfl
  · rw [hport]
    rfl
  · rw [hcontrol]
    rfl
  · rw [hcontrol]
    rfl

/-! ### The commands while RST_N is low -/

theorem State.Stilled.not_frameOpen (h : s.Stilled) : ¬ s.FrameOpen := by
  rintro ⟨f, hf, -⟩
  rw [h.frame] at hf
  cases hf

theorem State.Stilled.walkOf (h : s.Stilled) (c : LongCmd) : s.walkOf c = none := by
  simp [State.walkOf, h.rangeWalk]

/-- While RST_N is low no command changes anything that is no change of an input pin
(spec/12 R213). -/
theorem State.Stilled.exec_eq (h : s.Stilled) {i : Instr} (hi : i.movesPin = false) :
    exec i s = .next s := by
  have hframe {c : Instr} (hc : c.frameBytes.isSome = true) : exec c s = .next s :=
    exec_of_not_open h.not_frameOpen hc
  cases i with
  | hardReset | hardResetEnd | slpReqRise | slpReqFall | frameBegin | frameEnd | frameAbandon =>
    cases hi
  | status | result | get _ | set _ _ | readTile _ | readChannel _ | takeNotice | engage _
    | disengage | restart | discard _ _ | prepare _ _ | adopt _ _ | unknownCommand _ =>
    exact hframe rfl
  | request r => simp [exec, execRequest, h.hostDown]
  | hostLinkUp => simp [exec, execHostLinkUp, h.inReset]
  | memoryLinkUp => simp [exec, execMemoryLinkUp, h.inReset]
  | response w st data => simp [exec, execResponse, h.linkDown]
  | credit n => simp [exec, execCredit, h.linkDown]
  | enterDone | exitDone => exact congrArg _ (takeDone_of_down h.linkDown _ _)
  | responseTimeout tag => simp only [exec, execResponseTimeout, h.tags]
  | fillWriteTimeout tag => simp only [exec, execFillWriteTimeout, h.tags]
  | entryTimeout => simp [exec, execEntryTimeout, h.active]
  | exitTimeout => simp [exec, execExitTimeout, h.active]
  | halt => simp [exec, execHalt, h.active]
  | drainCompletion => exact congrArg _ (settleDrain_of_active h.active)
  | headClassification => simp only [exec, execHeadClassification, h.requests]
  | fillStart => simp only [exec, execFillStart, h.claim]
  | queueAtHead => simp only [exec, execQueueAtHead, h.claim]
  | promotion => simp only [exec, execPromotion, h.claim]
  | headGrant =>
    simp only [exec, execHeadGrant, h.requests]
    split <;> trivial
  | channelGrant c =>
    simp only [exec, execChannelGrant, grant_eq_none (.inr h.credits)]
    split <;> rfl
  | take c => simp only [exec, execTake, h.fillQueue]
  | cursorStep c => simp only [exec, execCursorStep, Channel.skipAt, h.skip, List.find?_nil]
  | engageWalkClaim => simp only [exec, execEngageWalkClaim, h.walk]
  | disengageEnd => simp [exec, execDisengageEnd, State.settleDisengage, h.bypass]
  | restartClear => simp [exec, execRestartClear, State.settleRestart, h.bypass]
  | discardClaim => simp only [exec, execDiscardClaim, h.walkOf]
  | prepareClaim => simp only [exec, execPrepareClaim, h.walkOf]
  | adoptClaim => simp only [exec, execAdoptClaim, h.walkOf]

/-! ### The law -/

/-- Every block takes its hard-reset value (spec/12 R213). -/
theorem resetLaw_hardReset (s : State) : s.hardReset.ResetLaw :=
  fun _ => ⟨rfl, rfl, rfl, rfl, rfl, rfl, rfl, rfl, rfl, rfl, rfl, rfl, rfl, rfl, rfl, rfl⟩

theorem State.ResetLaw.of_high (h : t.pins.inReset = false) : t.ResetLaw :=
  fun hrst => absurd hrst (by simp [h])

/-- The law does not read the levels of SLP_REQ and chip-select. -/
theorem State.ResetLaw.moved (h : s.ResetLaw) (slp cs : Bool) :
    State.ResetLaw { s with pins := { s.pins with slpReqHigh := slp, csLow := cs } } := h

theorem State.entered_pins (s : State) : s.entered.pins = s.pins := by
  unfold State.entered
  dsimp only
  split <;> simp

theorem State.exited_pins (s : State) : s.exited.pins = s.pins := by
  simp [State.exited]

theorem State.slpFell_inReset (s : State) : s.slpFell.pins.inReset = s.pins.inReset := by
  unfold State.slpFell
  dsimp only
  split <;> simp

/-- With RST_N high only HARD_RESET lowers it (spec/12 R213). -/
theorem State.RetMove.inReset {i : Instr} (m : s.RetMove i t) :
    t = s.hardReset ∨ t.pins.inReset = s.pins.inReset ∨ t.pins.inReset = false := by
  have hview {u v : State} (hu : u.retView = s.retView) (hv : v.pins = u.pins) :
      v.pins.inReset = s.pins.inReset := by
    rw [hv]
    exact (State.retView_parts hu).2.2
  cases m with
  | hardReset => exact .inl rfl
  | hardResetEnd => exact .inr (.inr (by simp))
  | slpReqRise => exact .inr (.inl (by simp))
  | slpReqFall => exact .inr (.inl (State.slpFell_inReset s))
  | stays ht => exact .inr (.inl (hview ht rfl))
  | @cleared _ u _ _ hu ht | @drained _ u _ _ _ hu ht =>
    obtain ⟨-, -, hrst⟩ := State.retView_parts ht
    exact .inr (.inl (hrst.trans (hview hu (by simp))))
  | wakePending _ ht => exact .inr (.inl (congrArg (fun v => v.2.2) ht))
  | @wakes _ u _ hu => exact .inr (.inl (hview hu (by simp)))
  | entered => exact .inr (.inl (congrArg Pins.inReset (State.entered_pins s)))
  | drainedEntered =>
    refine .inr (.inl (congrArg Pins.inReset ?_))
    rw [State.entered_pins, State.completeDrain_pins]
  | exited => exact .inr (.inl (congrArg Pins.inReset (State.exited_pins s)))
  | entryTimeout _ hu => exact .inr (.inl (hview hu (by simp)))
  | exitTimeout _ hu => exact .inr (.inl (hview hu (by simp)))
  | @halt u _ _ hu =>
    have hhalt := congrArg (fun v => v.2.2) (halted_retView u)
    exact .inr (.inl (hhalt.trans (hview hu rfl)))

/-- The fall of SLP_REQ clears release-needed, which is clear while RST_N is low (spec/04 R82). -/
theorem State.ResetLaw.slpFell (h : s.ResetLaw) (hrst : s.pins.inReset = true) :
    s.slpFell.ResetLaw := by
  have hret : s.ret = Retention.reset := by
    obtain ⟨-, -, -, -, -, -, -, -, -, hret, -⟩ := h hrst
    exact hret
  have hfell : s.slpFell = { s with pins := { s.pins with slpReqHigh := false } } := by
    simp [State.slpFell, hret, Retention.reset]
  rw [hfell]
  exact h.moved false s.pins.csLow

/-- While RST_N is low the rise of SLP_REQ is noted and starts no drain (spec/12 R213). -/
theorem State.ResetLaw.slpRose (h : s.ResetLaw) (hrst : s.pins.inReset = true) :
    (State.startDrain { s with pins := { s.pins with slpReqHigh := true } }).ResetLaw := by
  rw [State.startDrain, if_neg (by simp [State.drainDue, hrst])]
  exact h.moved true s.pins.csLow

/-- While RST_N is low no frame is in progress that the rise of chip-select could end. -/
theorem State.ResetLaw.raiseSelect (h : s.ResetLaw) (hrst : s.pins.inReset = true) :
    s.raiseSelect.ResetLaw := by
  by_cases hcs : s.pins.csLow = true
  · rw [raiseSelect_of_low hcs, ← (h.stilled hrst).frame]
    exact h.moved s.pins.slpReqHigh false
  · rw [State.raiseSelect, if_neg hcs]
    exact h

/-- While RST_N is low SLP_REQ and chip-select move alone, and where RST_N rises the law asks for
nothing more. -/
theorem exec_keeps_reset_of_low (h : s.ResetLaw) (hrst : s.pins.inReset = true) {i : Instr}
    (he : exec i s = .next t) : t.ResetLaw := by
  have hother (hi : i.movesPin = false) : t.ResetLaw := by
    rw [(h.stilled hrst).exec_eq hi] at he
    exact next_inj h he
  cases i with
  | hardReset => exact next_inj (resetLaw_hardReset s) he
  | hardResetEnd =>
    rw [exec_hardResetEnd_eq hrst] at he
    exact next_inj (.of_high (by simp)) he
  | slpReqRise =>
    refine next_inj ?_ he
    split
    · exact h
    · exact h.slpRose hrst
  | slpReqFall =>
    refine next_inj ?_ he
    split
    · exact h.slpFell hrst
    · exact h
  | frameBegin =>
    refine next_inj ?_ he
    split
    · exact h
    · exact h.moved s.pins.slpReqHigh true
  | frameEnd | frameAbandon => exact next_inj (h.raiseSelect hrst) he
  | _ => exact hother rfl

/-- With RST_N high the law asks for nothing, until HARD_RESET lowers it with every block at its
hard-reset value (spec/12 R213). -/
theorem exec_keeps_reset_of_high (hrst : s.pins.inReset = false) {i : Instr}
    (he : exec i s = .next t) : t.ResetLaw := by
  rcases (exec_retMove he).inReset with rfl | hsame | hhigh
  · exact resetLaw_hardReset s
  · exact .of_high (hsame.trans hrst)
  · exact .of_high hhigh

theorem exec_keeps_reset (h : s.ResetLaw) {i : Instr} (he : exec i s = .next t) : t.ResetLaw := by
  cases hrst : s.pins.inReset with
  | true => exact exec_keeps_reset_of_low h hrst he
  | false => exact exec_keeps_reset_of_high hrst he

/-- Settles O11: a command keeps the law, and a tick leaves what it reads. -/
theorem stepKeepsResetLaw : Obligations.StepKeepsResetLaw := by
  intro s t h hstep
  rcases step_cases hstep with ⟨c, rest, -, he⟩ | ⟨c, -, -, he⟩ | ⟨-, -, rfl⟩
  · exact exec_keeps_reset (s := { s with pending := rest }) h he
  · exact exec_keeps_reset h he
  · exact h

end Sys2Proof.Machine
end

section
/-! Settings change by SET and hard reset, and by nothing else (O12). -/

namespace Sys2Proof.Machine

variable {s t : State}

/-! ### Operations that leave the settings -/

/-- States with the same view have the same settings. -/
theorem State.settings_of_linkView (h : t.linkView = s.linkView) : t.settings = s.settings := by
  obtain ⟨-, -, -, -, -, -, hg, -⟩ := State.linkView_parts h
  exact hg

@[simp] theorem State.flush_settings (s : State) (st : HostStatus) :
    (s.flush st).settings = s.settings := by
  simp [State.flush, respondAll_eq]

@[simp] theorem State.reachDirective_settings (s : State) :
    s.reachDirective.settings = s.settings := by
  obtain ⟨d, he⟩ := s.reachDirective_eq
  rw [he]

theorem State.handArrival_settings (s : State) (r : HostRequest) :
    (s.handArrival r).settings = s.settings := by
  unfold State.handArrival
  split
  · rfl
  · rfl
  · rfl
  · split <;> rfl
  · split <;> rfl
  · rfl

theorem State.receive_settings (s : State) (r : HostRequest) :
    (s.receive r).settings = s.settings := by
  unfold State.receive
  dsimp only
  split
  · rfl
  · exact State.handArrival_settings _ r

theorem State.settleHead_settings (s : State) (r : HostRequest) (d : Decision) :
    (s.settleHead r d).settings = s.settings := by
  cases d with
  | answer st data n => cases n <;> rfl
  | forward how => rfl
  | wait => rfl
  | claim c => cases c <;> rfl

theorem State.issueHead_settings (s : State) (r : HostRequest) (tag : Tag) (how : IssueForm) :
    (s.issueHead r tag how).settings = s.settings := by
  obtain ⟨tags, l, he⟩ := s.passHead_issue_eq tag
    (.host r.body.kind (burstAddr r.addr) r.tag how.link) (burstAddr r.addr)
    (how.body s.settings r.body)
  simp only [State.issueHead, he]
  have hissued := State.settings_of_linkView
    (State.issueEffect_linkView { s with tags := tags, link := l } tag how)
  exact hissued

theorem State.grantHead_settings (s : State) (r : HostRequest) (tag : Tag) :
    (s.grantHead r tag).settings = s.settings := by
  by_cases hfwd : ∃ how, classify s r = .forward how
  · obtain ⟨how, hc⟩ := hfwd
    simp only [State.grantHead, hc]
    exact s.issueHead_settings r tag how
  · rw [grantHead_eq_settleHead tag fun how hc => hfwd ⟨how, hc⟩]
    exact s.settleHead_settings r _

theorem State.grantChan_settings (s : State) (c : Chan) (tag : Tag) :
    (s.grantChan c tag).settings = s.settings := by
  unfold State.grantChan
  split
  · split
    · simp
    · split
      · simp [State.reissueRetry, State.issueFill, State.passChan]
      · split
        · simp [State.issueCursor, State.issueFill, State.passChan]
        · simp
  · simp
  · simp

theorem State.takeResponse_settings (s : State) (tag : Tag) (st : MemStatus) (data : Burst) :
    (s.takeResponse tag st data).settings = s.settings := by
  unfold State.takeResponse
  split <;> simp

theorem State.entered_settings (s : State) : s.entered.settings = s.settings := by
  unfold State.entered
  dsimp only
  split <;> simp

theorem State.exited_settings (s : State) : s.exited.settings = s.settings := by
  simp [State.exited]

/-- A done message leaves the settings where its match does (spec/04 R86, R101). -/
theorem State.takeDone_settings (s : State) (wanted : RetState) {matched : State → State}
    (hm : ∀ u : State, (matched u).settings = u.settings) :
    (s.takeDone wanted matched).settings = s.settings := by
  unfold State.takeDone
  split
  · dsimp only
    split
    · exact (hm _).trans (by simp)
    · simp [State.strayDirective]
  · rfl

theorem State.halted_settings (s : State) : s.halted.settings = s.settings := by
  simp [State.halted]

theorem State.slpFell_settings (s : State) : s.slpFell.settings = s.settings := by
  unfold State.slpFell
  dsimp only
  split <;> simp

theorem State.raiseSelect_settings (s : State) : s.raiseSelect.settings = s.settings := by
  unfold State.raiseSelect
  split <;> rfl

/-- A command that is taken from its frame leaves the settings where its event does
(spec/09 R176). -/
theorem State.takeCommand_settings {after : State} (h : after.settings = s.settings) (n : Nat)
    (reply : List Byte) : (s.takeCommand n after reply).settings = s.settings := by
  unfold State.takeCommand
  split
  · exact h
  · rfl

/-- A long command leaves the settings where its acceptance does (spec/09 R175, R185). -/
theorem State.takeLong_settings {accepted : State} (h : accepted.settings = s.settings)
    (c : LongCmd) (n : Nat) (why : Option Reason) :
    (s.takeLong c n why accepted).settings = s.settings := by
  unfold State.takeLong
  split
  · split
    · rfl
    · refine State.takeCommand_settings ?_ n _
      split
      · rfl
      · exact h
  · rfl

theorem State.acceptDisengage_settings (s : State) : s.acceptDisengage.settings = s.settings := by
  rw [acceptDisengage_eq, State.settleDisengage_settings]
  exact State.settings_of_linkView s.disengaging_linkView

theorem State.acceptRestart_settings (s : State) : s.acceptRestart.settings = s.settings := by
  simp [State.acceptRestart, State.begin]

/-! ### Every command -/

theorem settings_of_next {u : State} (h : u.settings = s.settings)
    (he : (Host.Outcome.next u : Host.Outcome State Fault Refusal) = .next t) :
    t.settings = s.settings :=
  next_inj (P := fun v => v.settings = s.settings) h he

/-- Every command but SET and HARD_RESET leaves the settings (spec/09 R194). -/
theorem exec_settings {i : Instr} (hset : ∀ ident value, i ≠ .set ident value)
    (hreset : i ≠ .hardReset) (he : exec i s = .next t) : t.settings = s.settings := by
  cases i with
  | set ident value => exact absurd rfl (hset ident value)
  | hardReset => exact absurd rfl hreset
  | request r =>
    refine settings_of_next ?_ he
    split
    · split
      · rfl
      · exact s.receive_settings r
    · rfl
  | hostLinkUp | memoryLinkUp | credit _ | unknownCommand _ =>
    refine settings_of_next ?_ he
    split <;> rfl
  | response w st data =>
    refine settings_of_next ?_ he
    split
    · split
      · exact s.takeResponse_settings _ st data
      · rfl
    · rfl
  | enterDone => exact settings_of_next (s.takeDone_settings _ State.entered_settings) he
  | exitDone => exact settings_of_next (s.takeDone_settings _ State.exited_settings) he
  | responseTimeout tag | fillWriteTimeout tag =>
    refine settings_of_next ?_ he
    split
    · split <;> simp
    all_goals rfl
  | entryTimeout | exitTimeout =>
    refine settings_of_next ?_ he
    split <;> simp
  | halt =>
    refine settings_of_next ?_ he
    split
    · exact (State.halted_settings _).trans s.reachDirective_settings
    · rfl
  | slpReqRise | hardResetEnd =>
    refine settings_of_next ?_ he
    split <;> simp
  | slpReqFall =>
    refine settings_of_next ?_ he
    split
    · exact s.slpFell_settings
    · rfl
  | drainCompletion => exact settings_of_next s.settleDrain_settings he
  | headClassification =>
    refine settings_of_next ?_ he
    split
    · rfl
    · split
      · exact s.settleHead_settings _ _
      · rfl
  | fillStart =>
    refine settings_of_next ?_ he
    split
    · split
      · split
        · split
          · simp
          · split
            · simp
            · rfl
        · rfl
      · rfl
    all_goals rfl
  | queueAtHead =>
    refine settings_of_next ?_ he
    split
    · split
      · unfold State.takeQueueAtHead
        split <;> rfl
      · rfl
    all_goals rfl
  | promotion =>
    refine settings_of_next ?_ he
    split
    · split
      · split <;> rfl
      · rfl
    all_goals rfl
  | headGrant =>
    refine settings_of_next ?_ he
    split
    · split
      · exact s.grantHead_settings _ _
      · rfl
    all_goals rfl
  | channelGrant c =>
    refine settings_of_next ?_ he
    split
    · split
      · exact s.grantChan_settings c _
      · rfl
    · rfl
  | take c =>
    rcases execTake_cases he with rfl | ⟨k, rest, -, rfl⟩
    · rfl
    · exact s.startFill_settings k c
  | cursorStep c =>
    refine settings_of_next ?_ he
    split
    · split
      · simp [State.stepCursor]
      · rfl
    · rfl
  | status | result | get _ | readTile _ | readChannel _ | takeNotice =>
    refine settings_of_next (State.takeCommand_settings ?_ _ _) he
    rfl
  | frameAbandon | frameEnd => exact settings_of_next s.raiseSelect_settings he
  | engage option =>
    exact settings_of_next (State.takeLong_settings
      (State.settings_of_linkView (s.acceptEngage_linkView option)) _ _ _) he
  | engageWalkClaim =>
    refine settings_of_next ?_ he
    split
    · rfl
    · split
      · split
        · exact State.settleDrain_settings _
        · rfl
      · rfl
  | disengage => exact settings_of_next (State.takeLong_settings s.acceptDisengage_settings _ _ _) he
  | disengageEnd => exact settings_of_next s.settleDisengage_settings he
  | restart => exact settings_of_next (State.takeLong_settings s.acceptRestart_settings _ _ _) he
  | restartClear => exact settings_of_next s.settleRestart_settings he
  | discard _ _ | prepare _ _ | adopt _ _ =>
    refine settings_of_next (State.takeLong_settings ?_ _ _ _) he
    rfl
  | discardClaim =>
    refine settings_of_next ?_ he
    split
    · rfl
    · exact State.settings_of_linkView (s.discardTile_linkView _)
  | prepareClaim =>
    refine settings_of_next ?_ he
    split
    · rfl
    · split
      · rfl
      · exact State.settings_of_linkView (s.prepareTile_linkView _)
  | adoptClaim =>
    refine settings_of_next ?_ he
    split
    · rfl
    · split
      · rfl
      · exact State.settings_of_linkView (s.adoptTile_linkView _)
  | frameBegin =>
    refine settings_of_next ?_ he
    split
    · rfl
    · dsimp only
      split <;> rfl

/-- Settles O12: a command that is neither leaves the settings. -/
theorem settingsChangeOnlyBySetAndHardReset : Obligations.SettingsChangeOnlyBySetAndHardReset := by
  intro i s t he hne
  by_contra hno
  rw [not_or, not_exists] at hno
  obtain ⟨hreset, hset⟩ := hno
  exact hne (exec_settings (fun ident value hi => hset ident ⟨value, hi⟩) hreset he)

end Sys2Proof.Machine
end

section
/-! The changes of the mode (spec/10 R197): the table, the operations that end a command, and what
each command does to the mode (O16). -/

namespace Sys2Proof.Machine

variable {s t : State} {i : Instr}

/-! ### The table -/

/-- The commands that settle an IN_USE tag: a response to it, or the passing of its deadline
(spec/06 R137 to R140). -/
def SettlesTag (i : Instr) : Prop :=
  (∃ w st data, i = .response w st data) ∨
    ∃ tag, i = .responseTimeout tag ∨ i = .fillWriteTimeout tag

/-- The table of the mode's changes: by which command the mode goes from one to another
(spec/10 R197). -/
inductive ModeRow : Instr → Mode → Mode → Prop
  | stays {i : Instr} {m : Mode} : ModeRow i m m
  | hardReset {m : Mode} : ModeRow .hardReset m .bypass
  | engage {option : Byte} : ModeRow (.engage option) .bypass .engaging
  | walkEnds : ModeRow .engageWalkClaim .engaging .engaged
  /-- DISENGAGE may end at once (spec/10 R202). -/
  | disengage {m' : Mode} (hm' : m' = .disengaging ∨ m' = .bypass) :
      ModeRow .disengage .engaged m'
  /-- RESTART may be cleared at once (spec/10 R204). -/
  | restart {m m' : Mode} (hm : m = .bypass ∨ m = .engaged)
      (hm' : m' = .restarting ∨ m' = .bypass) : ModeRow .restart m m'
  | disengageEnds {i : Instr} (hi : i = .disengageEnd ∨ SettlesTag i) :
      ModeRow i .disengaging .bypass
  | restartClears {i : Instr} (hi : i = .restartClear ∨ SettlesTag i) :
      ModeRow i .restarting .bypass

/-- A command takes the mode from that of s to that of t by a row of the table. -/
def State.ModeMove (s : State) (i : Instr) (t : State) : Prop :=
  ModeRow i s.control.mode t.control.mode

theorem State.ModeMove.of_control (h : t.control = s.control) : s.ModeMove i t := by
  rw [State.ModeMove, h]
  exact .stays

/-- States with the same port view have the same mode. -/
theorem State.mode_of_portView (h : t.portView = s.portView) : t.control.mode = s.control.mode :=
  congrArg (fun v => v.2.2.2.2) h

theorem State.ModeMove.of_portView (h : t.portView = s.portView) : s.ModeMove i t := by
  rw [State.ModeMove, State.mode_of_portView h]
  exact .stays

/-! ### The ends of the long commands -/

theorem State.endEngage_mode (s : State) : s.endEngage.control.mode = .engaged := by
  simp [State.endEngage]

theorem State.endDisengage_mode (s : State) : s.endDisengage.control.mode = .bypass := by
  simp [State.endDisengage]

theorem State.clear_mode (s : State) : s.clear.control.mode = .bypass := by
  simp [State.clear]

/-- DISENGAGE ends, or goes on (spec/10 R203). -/
theorem settleDisengage_cases (s : State) :
    (s.control.mode = .disengaging ∧ s.settleDisengage = s.endDisengage) ∨
      s.settleDisengage = s := by
  unfold State.settleDisengage
  split
  · next h => exact .inl ⟨h.1, rfl⟩
  · exact .inr rfl

theorem modeMove_settleDisengage (hi : i = .disengageEnd ∨ SettlesTag i)
    (hc : t.control = s.control) : s.ModeMove i t.settleDisengage := by
  rcases settleDisengage_cases t with ⟨hm, he⟩ | he
  · rw [State.ModeMove, he, State.endDisengage_mode, ← hc, hm]
    exact .disengageEnds hi
  · rw [he]
    exact .of_control hc

theorem modeMove_settleRestart (hi : i = .restartClear ∨ SettlesTag i)
    (hc : t.control = s.control) : s.ModeMove i t.settleRestart := by
  rcases settleRestart_cases t with ⟨hm, he⟩ | he
  · rw [State.ModeMove, he, State.clear_mode, ← hc, hm]
    exact .restartClears hi
  · rw [he]
    exact .of_control hc

/-- The settling of a tag ends DISENGAGE or RESTART, or leaves the mode (spec/10 R203, R206). -/
theorem modeMove_settleTag (hi : SettlesTag i) (hc : t.control = s.control) :
    s.ModeMove i t.settleTag := by
  have hdrain : s.ModeMove i t.settleDrain := .of_control (t.settleDrain_control.trans hc)
  unfold State.settleTag
  split
  · exact modeMove_settleRestart (.inr hi) hc
  · exact modeMove_settleDisengage (.inr hi) hc
  · exact hdrain
  · exact hdrain
  · exact .of_control hc

theorem modeMove_takeResponse (hi : SettlesTag i) (s : State) (tag : Tag) (st : MemStatus)
    (data : Burst) : s.ModeMove i (s.takeResponse tag st data) := by
  unfold State.takeResponse
  split
  · exact .stays
  · exact .stays
  · exact modeMove_settleTag hi (by simp)
  · exact modeMove_settleTag hi (by simp)

/-! ### Taking a command -/

/-- A command taken from its frame moves the mode as its event does (spec/09 R176). -/
theorem State.ModeMove.takeCommand {after : State} (h : s.ModeMove i after) (n : Nat)
    (reply : List Byte) : s.ModeMove i (s.takeCommand n after reply) := by
  unfold State.takeCommand
  split
  · exact h
  · exact .stays

/-- A long command moves the mode as its acceptance does, where it is not turned away with BUSY and
its checks hold (spec/09 R175, R185). -/
theorem State.ModeMove.takeLong {c : LongCmd} {why : Option Reason} {accepted : State}
    (h : s.busyFor c = false → why = none → s.ModeMove i accepted) (n : Nat) :
    s.ModeMove i (s.takeLong c n why accepted) := by
  unfold State.takeLong
  split
  · cases hb : s.busyFor c with
    | true => exact .stays
    | false =>
      refine State.ModeMove.takeCommand ?_ n _
      cases why with
      | none => exact h hb rfl
      | some r => exact .stays
  · exact .stays

/-! ### Acceptance -/

/-- ENGAGE is accepted in BYPASS (spec/10 R199). -/
theorem modeMove_acceptEngage {option : Byte} (hj : s.judgeEngage option = none) :
    s.ModeMove (.engage option) (s.acceptEngage option) := by
  have hm : s.control.mode = .bypass := mode_of_firstFailure .bypass .mode (by simp) hj
  unfold State.acceptEngage
  split
  · exact .stays
  · rw [State.ModeMove, hm]
    exact .engage

/-- DISENGAGE is accepted in ENGAGED (spec/10 R202). -/
theorem modeMove_acceptDisengage (hj : s.judgeDisengage = none) :
    s.ModeMove .disengage s.acceptDisengage := by
  have hm : s.control.mode = .engaged := mode_of_firstFailure .engaged .mode (by simp) hj
  rw [State.ModeMove, hm, acceptDisengage_eq]
  rcases settleDisengage_cases s.disengaging with ⟨-, he⟩ | he
  · exact .disengage (.inr (he ▸ State.endDisengage_mode _))
  · exact .disengage (.inl (by rw [he]; rfl))

/-- A long command that is not turned away with BUSY finds the mode settled: no command runs, or an
ADOPT that is held (spec/09 R178, spec/05 R123). -/
theorem State.PortLaw.settled_of_not_busy (h : s.PortLaw) {c : LongCmd}
    (hb : s.busyFor c = false) : s.control.mode.settled = true := by
  cases hr : s.port.running with
  | none =>
    obtain ⟨-, hm, -⟩ := (portLaw_iff_of_idle hr).1 h
    exact hm
  | some r =>
    obtain ⟨⟨-, rfl⟩, -⟩ : (c = .restart ∧ r = .adopt) ∧ s.ret.state = .halted := by
      simpa [State.busyFor, hr] using hb
    obtain ⟨-, -, hm, -⟩ := (portLaw_iff_of_running hr).1 h
    exact hm

/-- RESTART leaves the mode RESTARTING, or BYPASS where the clear follows at once
(spec/10 R204, R206). -/
theorem State.acceptRestart_mode (s : State) :
    s.acceptRestart.control.mode = .restarting ∨ s.acceptRestart.control.mode = .bypass := by
  unfold State.acceptRestart
  dsimp only
  rcases settleRestart_cases (State.examineChans (State.flush
    { s.begin .restart with control := { mode := .restarting, walk := none } } .aborted))
    with ⟨-, he⟩ | he
  · rw [he]
    exact .inr (State.clear_mode _)
  · rw [he]
    exact .inl (State.mode_of_portView (State.flush_portView _ .aborted))

/-- RESTART is accepted in BYPASS and in ENGAGED, where no other command has the mode
(spec/10 R197, R204). -/
theorem modeMove_acceptRestart (h : s.PortLaw) (hb : s.busyFor .restart = false) :
    s.ModeMove .restart s.acceptRestart :=
  .restart ((Mode.settled_iff _).1 (h.settled_of_not_busy hb)) s.acceptRestart_mode

/-! ### Every command -/

/-- The ENGAGE walk goes on, or ends in ENGAGED (spec/10 R200, R201). -/
theorem modeMove_execEngageWalkClaim (h : s.ModeLaw) (he : execEngageWalkClaim s = .next t) :
    s.ModeMove .engageWalkClaim t := by
  refine next_inj ?_ he
  split
  · exact .stays
  · next w hw =>
    split
    · split
      · rw [State.ModeMove, h.engaging_of_walk hw, State.endEngage_mode]
        exact .walkEnds
      · exact .stays
    · exact .stays

/-- Every command moves the mode by the table. -/
theorem exec_modeMove (hmode : s.ModeLaw) (hport : s.PortLaw) (he : exec i s = .next t) :
    s.ModeMove i t := by
  cases i with
  | request r =>
    refine next_inj ?_ he
    split
    · split
      · exact .stays
      · exact .of_portView (s.receive_portView r)
    · exact .stays
  | hostLinkUp | memoryLinkUp | credit _ | unknownCommand _ =>
    refine next_inj ?_ he
    split <;> exact .stays
  | response w st data =>
    refine next_inj ?_ he
    split
    · split
      · exact modeMove_takeResponse (.inl ⟨w, st, data, rfl⟩) s _ st data
      · exact .stays
    · exact .stays
  | enterDone => exact next_inj (.of_portView (s.takeDone_portView _ State.entered_portView)) he
  | exitDone => exact next_inj (.of_portView (s.takeDone_portView _ State.exited_portView)) he
  | responseTimeout tag | fillWriteTimeout tag =>
    refine next_inj ?_ he
    split
    · split
      · exact modeMove_settleTag (.inr ⟨tag, by simp⟩) (by simp)
      · exact .stays
    all_goals exact .stays
  | entryTimeout | exitTimeout =>
    refine next_inj ?_ he
    split
    · exact .of_portView s.reachDirective_portView
    · exact .stays
  | halt =>
    refine next_inj ?_ he
    split
    · exact .of_portView ((State.halted_portView _).trans s.reachDirective_portView)
    · exact .stays
  | slpReqRise =>
    refine next_inj ?_ he
    split
    · exact .stays
    · exact .of_portView (State.startDrain_portView _)
  | slpReqFall =>
    refine next_inj ?_ he
    split
    · exact .of_portView s.slpFell_portView
    · exact .stays
  | drainCompletion => exact next_inj (.of_portView s.settleDrain_portView) he
  | hardReset =>
    refine next_inj ?_ he
    exact .hardReset
  | hardResetEnd =>
    refine next_inj ?_ he
    split
    · exact .of_portView (State.startDrain_portView _)
    · exact .stays
  | headClassification =>
    refine next_inj ?_ he
    split
    · exact .stays
    · split
      · exact .of_portView (s.settleHead_portView _ _)
      · exact .stays
  | fillStart =>
    refine next_inj ?_ he
    split
    · split
      · split
        · split
          · exact .of_portView (s.startFill_portView _ _)
          · split
            · exact .of_portView (s.startFill_portView _ _)
            · exact .stays
        · exact .stays
      · exact .stays
    all_goals exact .stays
  | queueAtHead =>
    refine next_inj ?_ he
    split
    · split
      · unfold State.takeQueueAtHead
        split <;> exact .stays
      · exact .stays
    all_goals exact .stays
  | promotion =>
    refine next_inj ?_ he
    split
    · split
      · split <;> exact .stays
      · exact .stays
    all_goals exact .stays
  | headGrant =>
    refine next_inj ?_ he
    split
    · split
      · exact .of_portView (s.grantHead_portView _ _)
      · exact .stays
    all_goals exact .stays
  | channelGrant c =>
    refine next_inj ?_ he
    split
    · split
      · exact .of_portView (s.grantChan_portView c _)
      · exact .stays
    · exact .stays
  | take c =>
    rcases execTake_cases he with rfl | ⟨k, rest, -, rfl⟩
    · exact .stays
    · exact .of_portView (s.startFill_portView k c)
  | cursorStep c =>
    refine next_inj ?_ he
    split
    · split
      · exact .of_control (by simp [State.stepCursor])
      · exact .stays
    · exact .stays
  | status | result | get _ | set _ _ | readTile _ | readChannel _ | takeNotice =>
    refine next_inj (State.ModeMove.takeCommand ?_ _ _) he
    exact .stays
  | frameAbandon | frameEnd => exact next_inj (.of_portView s.raiseSelect_portView) he
  | engage option => exact next_inj (.takeLong (fun _ => modeMove_acceptEngage) _) he
  | engageWalkClaim => exact modeMove_execEngageWalkClaim hmode he
  | disengage => exact next_inj (.takeLong (fun _ => modeMove_acceptDisengage) _) he
  | disengageEnd => exact next_inj (modeMove_settleDisengage (.inl rfl) rfl) he
  | restart =>
    exact next_inj (.takeLong (fun hb _ => modeMove_acceptRestart hport hb) _) he
  | restartClear => exact next_inj (modeMove_settleRestart (.inl rfl) rfl) he
  | discard _ _ | prepare _ _ | adopt _ _ =>
    refine next_inj (State.ModeMove.takeLong (fun _ _ => ?_) _) he
    exact .stays
  | discardClaim =>
    refine next_inj ?_ he
    split
    · exact .stays
    · exact .of_control (s.discardTile_control _)
  | prepareClaim =>
    refine next_inj ?_ he
    split
    · exact .stays
    · split
      · exact .stays
      · exact .of_control (s.prepareTile_control _)
  | adoptClaim =>
    refine next_inj ?_ he
    split
    · exact .stays
    · split
      · exact .stays
      · exact .of_control (s.adoptTile_control _)
  | frameBegin =>
    refine next_inj ?_ he
    split
    · exact .stays
    · dsimp only
      split <;> exact .stays

/-- Settles O16: each row of the table is one of the changes stated. -/
theorem modeChangesFollowTheTable : Obligations.ModeChangesFollowTheTable := by
  intro i s t hmode hport he
  have hmove : ModeRow i s.control.mode t.control.mode := exec_modeMove hmode hport he
  generalize s.control.mode = m, t.control.mode = m' at hmove
  cases hmove with
  | stays => exact .inl rfl
  | hardReset => simp
  | engage => simp
  | walkEnds => simp
  | disengage hm => rcases hm with rfl | rfl <;> simp
  | restart hm hm' => rcases hm with rfl | rfl <;> rcases hm' with rfl | rfl <;> simp
  | disengageEnds hi => simpa using .inr hi
  | restartClears hi => simpa using .inr hi

end Sys2Proof.Machine
end
